-- ==== Sys2Proof/Word.lean ====
section
/-! DEFINITION. The word types of the DT3208: the 16-bit window word, the 48-bit latch value and epoch, the 40-bit counter
value, and the sets of counters that the manual shows as masks. Nothing here chooses a behaviour. -/

namespace Sys2Proof

/-- One word of the register window (R160: every access is a whole 16-bit word). -/
abbrev Word := BitVec 16

/-- The three table port latches taken together as one 48-bit number (section 9.5). -/
abbrev Latch := BitVec 48

/-- The 48-bit epoch (section 1.1). -/
abbrev Epoch := BitVec 48

/-- A counter value or preset, 0 to 2^40−1 (R39). -/
abbrev Tally := BitVec 40

/-- The amount of a source event, 0 to 4095 (R15). -/
abbrev Amount := BitVec 12

/-- A set of counters as the manual encodes it: bit k stands for counter Ck (R170). -/
abbrev CounterSet := BitVec 32

end Sys2Proof
end

