-- ==== Sys2Proof/Syntax.lean ====
section
/-! DEFINITION. The commands of the DT3208: one constructor of `Instr` for each row of spec/opcode_table.json, with the
operands the row's event has, and the named parts of an access (the fields of the tables, the phases of a bus cycle).
A row that stands for the arrival of a message carries no message: the message is the one at the front of its path. -/

namespace Sys2Proof

/-- What a bus cycle asks of the window: the offset on A6 to A1 and, for a write, the word on D15 to D0 (R158). -/
inductive Access where
  | read (offset : BitVec 6)
  | write (offset : BitVec 6) (word : Word)
  deriving DecidableEq, Repr

/-- Which part of its bus cycle a host access row stands for (R158, R159; log entry 8).
* `whole`: the cycle is recognised, the owner takes the access, and its answer is latched, in this one step.
* `begun`: the cycle is recognised, and passed on or held; its owner has not taken it yet.
* `cutShort`: its strobe (or CSn, when `csHigh`) went high before RDYn went low; the access is not recalled.
* `taken`: the owner takes the access passed on before, and its answer is latched. -/
inductive CyclePhase where
  | whole
  | begun
  | cutShort (csHigh : Bool)
  | taken
  deriving DecidableEq, Repr

/-- Which end of the recovery time a RESET_RECOVERY_END row stands for (R175; log entry 14).
* `begun`: RESETn has returned high, or the supply and the clock are ready after power-up, and recovery begins.
* `ended`: recovery ends; `levels` are those on the lines at that moment, line n in bit n. -/
inductive RecoveryPhase where
  | begun
  | ended (levels : Word)
  deriving DecidableEq, Repr

/-- The two paths that bring LINE and CHANNEL source events to the Count Engine (R16). -/
inductive SourcePath where
  | lines
  | link
  deriving DecidableEq, Repr

/-- The three blocks with a path to the Event Controller (R147). -/
inductive Reporter where
  | receiver
  | engine
  | queue
  deriving DecidableEq, Repr

/-- The fields of table COUNTER in the order of their numbers (R170). -/
inductive CounterField where
  | enabled | group | source | mode | bandLow | bandHigh | overflowCapture | value | preset | inside | wrapped | stale
  deriving DecidableEq, Repr

/-- The fields of table GROUP in the order of their numbers (R170). -/
inductive GroupField where
  | state | returnState | members | policy | holdAfter | reloadAfter | period | countdown | chainNext | outstanding
  | missed | lost | placed | dropped | abandoned
  deriving DecidableEq, Repr

/-- The fields of table AGENT in the order of their numbers (R171). -/
inductive AgentField where
  | enabled | state | expected | silenceLimit | silenceElapsed | accepted | missed | timesLost
  deriving DecidableEq, Repr

/-- The fields of table RECEIVER in the order of their numbers (R171). -/
inductive ReceiverField where
  | enabled | checkErrors | framingErrors | unexpected
  deriving DecidableEq, Repr

/-- The fields of table TIMEBASE in the order of their numbers (R171). -/
inductive TimebaseField where
  | state | periodCode | epoch
  deriving DecidableEq, Repr

/-- The fields of table LINE in the order of their numbers (R171). -/
inductive LineField where
  | enabled | edge | level
  deriving DecidableEq, Repr

/-- The three error classes in the order of their indexes in table ERROR (R151). -/
inductive ErrorClass where
  | link | loss | chain
  deriving DecidableEq, Repr

/-- The fields of table ERROR in the order of their numbers (R172). -/
inductive ErrorField where
  | detected | firstKind | firstSubject | firstEpoch | further
  deriving DecidableEq, Repr

/-- The fields of table HEAD in the order of their numbers (R172). -/
inductive HeadField where
  | recordCount | queueValues | waiting | sequence | group | cause | overflowSet | chainOrigin | hop | chainTag
  | captureEpoch | placementEpoch | valueCount
  deriving DecidableEq, Repr

/-- The fields of table HEADVALUE in the order of their numbers (R172). -/
inductive HeadValueField where
  | counter | value | wrapped | stale
  deriving DecidableEq, Repr

/-- A field of a table entry, as TSEL and TFIELD name it when the checks of R169 pass. -/
inductive Selection where
  | counter (k : Fin 32) (f : CounterField)
  | group (g : Fin 8) (f : GroupField)
  | agent (a : Fin 8) (f : AgentField)
  | receiver (f : ReceiverField)
  | timebase (f : TimebaseField)
  | line (n : Fin 16) (f : LineField)
  | error (c : ErrorClass) (f : ErrorField)
  | head (f : HeadField)
  | headValue (p : Fin 8) (f : HeadValueField)
  deriving DecidableEq, Repr

/-- The content of a tally frame: what its sender says, less the preamble and the check field (R20). -/
structure Frame where
  agent : Fin 8
  channel : Fin 4
  keepalive : Bool
  sequence : BitVec 4
  amount : Amount
  deriving DecidableEq, Repr

/-- The commands and events of the part, in the order of spec/opcode_table.json.
A host access carries the phase `c` of its bus cycle. A command that does not use its operand byte carries it as `op`
(R163: any value is accepted). A TDATA0 commit carries the word written; its table, index, field and upper 32 bits are
those the Host Port holds when it is taken (R168, R177). TABLE_FETCH carries the offset read: at TDATA0 the read is the
row's fetch, and at any other offset a read of that register, which the table gives no row of its own (log entry 9). -/
inductive Instr where
  | intervalExpiry
  | timebaseStart (c : CyclePhase) (op : BitVec 8)
  | timebaseStop (c : CyclePhase) (op : BitVec 8)
  | periodCodeWrite (c : CyclePhase) (w : Word)
  | epochWrite (c : CyclePhase) (w : Word)
  | lineChange (n : Fin 16)
  | lineFieldWrite (c : CyclePhase) (w : Word)
  | frameComplete (bit : Bool)
  | quietTimeExpiry
  | receiverTick
  | agentLost (a : Fin 8)
  | receiverEnabledWrite (c : CyclePhase) (w : Word)
  | agentEnabledWrite (c : CyclePhase) (w : Word)
  | silenceLimitWrite (c : CyclePhase) (w : Word)
  | linkRestart (c : CyclePhase) (op : BitVec 8)
  | linkClearCounts (c : CyclePhase) (op : BitVec 8)
  | sourceEvent (path : SourcePath)
  | engineTick
  | periodicCause (g : Fin 8)
  | overflowEvent
  | placedEvent
  | agentDown
  | groupStart (c : CyclePhase) (g : Fin 8)
  | groupHold (c : CyclePhase) (g : Fin 8)
  | groupResume (c : CyclePhase) (g : Fin 8)
  | groupStop (c : CyclePhase) (g : Fin 8)
  | groupCapture (c : CyclePhase) (g : Fin 8)
  | groupClear (c : CyclePhase) (g : Fin 8)
  | groupReload (c : CyclePhase) (g : Fin 8)
  | countingReset (c : CyclePhase) (op : BitVec 8)
  | chainRequest
  | answerTaken
  | answerWaiting
  | answerRefused
  | answerPlaced
  | answerAbandoned
  | counterFieldWrite (c : CyclePhase) (w : Word)
  | counterGroupWrite (c : CyclePhase) (w : Word)
  | valuePresetWrite (c : CyclePhase) (w : Word)
  | groupFieldWrite (c : CyclePhase) (w : Word)
  | draft
  | withdraw
  | queueRelease (c : CyclePhase) (op : BitVec 8)
  | queueFlush (c : CyclePhase) (op : BitVec 8)
  | watermarkWrite (c : CyclePhase) (w : Word)
  | errorReport (r : Reporter)
  | statusEvent (r : Reporter)
  | irqstatWrite (c : CyclePhase) (w : Word)
  | irqenWrite (c : CyclePhase) (w : Word)
  | tableFetch (c : CyclePhase) (offset : BitVec 6)
  | readOnlyTableWrite (c : CyclePhase) (w : Word)
  | unknownCommand (c : CyclePhase) (w : Word)
  | registerWrite (c : CyclePhase) (offset : BitVec 6) (w : Word)
  | bothStrobesLow
  | busCycleEnd (csHigh : Bool)
  | heldCyclePassedOn
  | deviceReset (c : CyclePhase) (op : BitVec 8) (levels : Word)
  | resetnAsserted
  | resetRecoveryEnd (c : RecoveryPhase)
  | powerUp
  | tclkRisingEdge (bit : Bool)
  | tableCommitRange (c : CyclePhase) (w : Word)
  | groupOperandRange (c : CyclePhase) (w : Word)
  | readonlyFieldWrite (c : CyclePhase) (w : Word)
  deriving DecidableEq, Repr

end Sys2Proof
end

