-- ==== Sys2Proof/WellFormed.lean ====
section
/-! DEFINITION. Which terms of `Instr` name an event of the part. Operands are typed so that nearly every term does; three
rows take a whole word or offset, and the word must be one of that row's. -/

namespace Sys2Proof

/-- The command codes of R163. -/
def commandCodes : List (BitVec 8) :=
  [0x01, 0x02, 0x03, 0x04, 0x05, 0x06, 0x07, 0x10, 0x11, 0x20, 0x21, 0x32, 0x33, 0x40, 0x4F]

/-- The codes of the seven group commands, whose operand names a group (R163). -/
def groupCommandCodes : List (BitVec 8) := [0x01, 0x02, 0x03, 0x04, 0x05, 0x06, 0x07]

/-- The high byte of a CMD word: the command code (R162). -/
def cmdCode (w : Word) : BitVec 8 := w.extractLsb' 8 8

/-- The low byte of a CMD word: the operand (R162). -/
def cmdOperand (w : Word) : BitVec 8 := w.extractLsb' 0 8

/-- A CMD word that names no command (R163). -/
def unknownWord (w : Word) : Bool := !commandCodes.contains (cmdCode w)

/-- A CMD word of a group command with an operand above 7 (R163). -/
def groupRangeWord (w : Word) : Bool := groupCommandCodes.contains (cmdCode w) && decide (7 < (cmdOperand w).toNat)

/-- The offsets whose writes are rows of their own: IRQSTAT, IRQEN, CMD, TDATA0 and WATERMARK (R160). -/
def ownRowOffsets : List (BitVec 6) := [0x02, 0x03, 0x04, 0x08, 0x0C]

/-- A write of this offset is a REGISTER_WRITE: TSEL, TFIELD, TDATA1, TDATA2, or a register whose write is ignored. -/
def plainOffset (offset : BitVec 6) : Bool := !ownRowOffsets.contains offset

/-- The term names an event of the part. -/
def wellFormed : Instr → Bool
  | .unknownCommand _ w => unknownWord w
  | .groupOperandRange _ w => groupRangeWord w
  | .registerWrite _ offset _ => plainOffset offset
  | _ => true

end Sys2Proof
end

