-- ==== Sys2Proof/Decode.lean ====
section
/-! DEFINITION. How the part reads an access of its host: the table, index and field that TSEL and TFIELD name (R169), the
row of the opcode table that a write of the window is (R160, R163, R168), and back, the access that a host access row is.
The opcode table gives no row any bits, so `decodeTableWord` answers none. -/

namespace Sys2Proof

/-! ## The tally frame -/

/-- One bit taken into the CRC-8 remainder: shift left, and invert the bits of 07h where the outgoing and the incoming bit
differ (R21). -/
def crcBit (rem : BitVec 8) (bit : Bool) : BitVec 8 := if rem.msb == bit then rem <<< 1 else (rem <<< 1) ^^^ 0x07

/-- The bits of a word from its most significant bit down. -/
def bitsDown {n : Nat} (x : BitVec n) : List Bool := (List.range n).map fun i => x.getMsbD i

/-- The CRC-8 of the 22 bits 29 to 8 of a frame, from bit 29 to bit 8 (R21). -/
def crcOf (content : BitVec 22) : BitVec 8 := (bitsDown content).foldl crcBit 0

/-- Bits 31:30 of a frame (R20). -/
def framePreamble (f : BitVec 32) : BitVec 2 := f.extractLsb' 30 2

/-- Bits 29:8 of a frame, which the check covers (R21). -/
def frameContent (f : BitVec 32) : BitVec 22 := f.extractLsb' 8 22

/-- Bits 7:0 of a frame (R20). -/
def frameCheck (f : BitVec 32) : BitVec 8 := f.extractLsb' 0 8

/-- The check field equals the CRC-8 of the content (R21). -/
def checkPasses (f : BitVec 32) : Bool := decide (frameCheck f = crcOf (frameContent f))

/-- The fields of a frame's content (R20). -/
def frameOf (f : BitVec 32) : Frame where
  agent := (f.extractLsb' 27 3).toFin
  channel := (f.extractLsb' 25 2).toFin
  keepalive := f.getLsbD 24
  sequence := f.extractLsb' 20 4
  amount := f.extractLsb' 8 12

/-- The 22 content bits of a frame, from bit 29 to bit 8 (R20). -/
def contentOf (x : Frame) : BitVec 22 :=
  BitVec.ofFin (w := 3) x.agent ++ BitVec.ofFin (w := 2) x.channel ++ BitVec.ofBool x.keepalive ++ x.sequence ++ x.amount

/-- The frame a sender puts on the link for a content: preamble 10b, the content, and its check (R20, R21). -/
def encodeFrame (x : Frame) : BitVec 32 := (0b10#2 ++ contentOf x) ++ crcOf (contentOf x)

/-! ## Accesses of the host -/

/-- The command a word spells by the bits of spec/opcode_table.json. No row of that table has bits, so no word spells one. -/
def decodeTableWord (_nbits _w : Nat) : Option Instr := none

/-- A number below n as an index. -/
def finOf (n x : Nat) : Option (Fin n) := if h : x < n then some ⟨x, h⟩ else none

/-- Field numbers of table COUNTER (R170). -/
def counterFields : List CounterField :=
  [.enabled, .group, .source, .mode, .bandLow, .bandHigh, .overflowCapture, .value, .preset, .inside, .wrapped, .stale]

/-- Field numbers of table GROUP (R170). -/
def groupFields : List GroupField :=
  [.state, .returnState, .members, .policy, .holdAfter, .reloadAfter, .period, .countdown, .chainNext, .outstanding,
   .missed, .lost, .placed, .dropped, .abandoned]

/-- Field numbers of table AGENT (R171). -/
def agentFields : List AgentField :=
  [.enabled, .state, .expected, .silenceLimit, .silenceElapsed, .accepted, .missed, .timesLost]

/-- Field numbers of table RECEIVER (R171). -/
def receiverFields : List ReceiverField := [.enabled, .checkErrors, .framingErrors, .unexpected]

/-- Field numbers of table TIMEBASE (R171). -/
def timebaseFields : List TimebaseField := [.state, .periodCode, .epoch]

/-- Field numbers of table LINE (R171). -/
def lineFields : List LineField := [.enabled, .edge, .level]

/-- Indexes of table ERROR (R151). -/
def errorClasses : List ErrorClass := [.link, .loss, .chain]

/-- Field numbers of table ERROR (R172). -/
def errorFields : List ErrorField := [.detected, .firstKind, .firstSubject, .firstEpoch, .further]

/-- Field numbers of table HEAD (R172). -/
def headFields : List HeadField :=
  [.recordCount, .queueValues, .waiting, .sequence, .group, .cause, .overflowSet, .chainOrigin, .hop, .chainTag,
   .captureEpoch, .placementEpoch, .valueCount]

/-- Field numbers of table HEADVALUE (R172). -/
def headValueFields : List HeadValueField := [.counter, .value, .wrapped, .stale]

/-- Bits 15 to 8 of TSEL: the table code (R162). -/
def tselTable (tsel : Word) : Nat := (tsel.extractLsb' 8 8).toNat

/-- Bits 7 to 0 of TSEL: the index (R162). -/
def tselIndex (tsel : Word) : Nat := (tsel.extractLsb' 0 8).toNat

/-- The field that TSEL and TFIELD select, or none where the table, the index or the field number is out of range (R169). -/
def selection (tsel : Word) (tfield : BitVec 8) : Option Selection :=
  let index := tselIndex tsel
  let field := tfield.toNat
  match tselTable tsel with
  | 0 => (finOf 32 index).bind fun k => (counterFields[field]?).map (.counter k)
  | 1 => (finOf 8 index).bind fun g => (groupFields[field]?).map (.group g)
  | 2 => (finOf 8 index).bind fun a => (agentFields[field]?).map (.agent a)
  | 3 => (finOf 1 index).bind fun _ => (receiverFields[field]?).map .receiver
  | 4 => (finOf 1 index).bind fun _ => (timebaseFields[field]?).map .timebase
  | 5 => (finOf 16 index).bind fun n => (lineFields[field]?).map (.line n)
  | 6 => (errorClasses[index]?).bind fun c => (errorFields[field]?).map (.error c)
  | 7 => (finOf 1 index).bind fun _ => (headFields[field]?).map .head
  | 8 => (finOf 8 index).bind fun p => (headValueFields[field]?).map (.headValue p)
  | _ => none

/-- The row that a commit (a write of TDATA0) is, by the field it selects (R168, R169; log entry 7). -/
def commitRow (c : CyclePhase) (w : Word) : Option Selection → Instr
  | none => .tableCommitRange c w
  | some (.counter _ .group) => .counterGroupWrite c w
  | some (.counter _ .value) => .valuePresetWrite c w
  | some (.counter _ .preset) => .valuePresetWrite c w
  | some (.counter _ _) => .counterFieldWrite c w
  | some (.group _ _) => .groupFieldWrite c w
  | some (.agent _ .enabled) => .agentEnabledWrite c w
  | some (.agent _ .silenceLimit) => .silenceLimitWrite c w
  | some (.agent _ _) => .readonlyFieldWrite c w
  | some (.receiver _) => .receiverEnabledWrite c w
  | some (.timebase .state) => .readonlyFieldWrite c w
  | some (.timebase .periodCode) => .periodCodeWrite c w
  | some (.timebase .epoch) => .epochWrite c w
  | some (.line _ _) => .lineFieldWrite c w
  | some (.error _ _) => .readOnlyTableWrite c w
  | some (.head _) => .readOnlyTableWrite c w
  | some (.headValue _ _) => .readOnlyTableWrite c w

/-- The row that a group command is: its operand names a group, or is above 7 (R163). -/
def groupRow (c : CyclePhase) (w : Word) (row : CyclePhase → Fin 8 → Instr) : Instr :=
  match finOf 8 (cmdOperand w).toNat with
  | some g => row c g
  | none => .groupOperandRange c w

/-- The row that a write of CMD is (R163). The levels are those present on the lines when a DEVICE RESET ends (R174). -/
def commandRow (c : CyclePhase) (levels : Word) (w : Word) : Instr :=
  let op := cmdOperand w
  match (cmdCode w).toNat with
  | 0x01 => groupRow c w .groupStart
  | 0x02 => groupRow c w .groupHold
  | 0x03 => groupRow c w .groupResume
  | 0x04 => groupRow c w .groupStop
  | 0x05 => groupRow c w .groupCapture
  | 0x06 => groupRow c w .groupClear
  | 0x07 => groupRow c w .groupReload
  | 0x10 => .queueRelease c op
  | 0x11 => .queueFlush c op
  | 0x20 => .timebaseStart c op
  | 0x21 => .timebaseStop c op
  | 0x32 => .linkRestart c op
  | 0x33 => .linkClearCounts c op
  | 0x40 => .countingReset c op
  | 0x4F => .deviceReset c op levels
  | _ => .unknownCommand c w

/-- The row that a write of a window register is, while TSEL and TFIELD hold these words (R160, R163, R168). -/
def writeRow (c : CyclePhase) (levels tsel : Word) (tfield : BitVec 8) (offset : BitVec 6) (w : Word) : Instr :=
  match offset.toNat with
  | 0x02 => .irqstatWrite c w
  | 0x03 => .irqenWrite c w
  | 0x04 => commandRow c levels w
  | 0x08 => commitRow c w (selection tsel tfield)
  | 0x0C => .watermarkWrite c w
  | _ => .registerWrite c offset w

/-- The CMD word of a command code and an operand byte (R162). -/
def cmdWord (code op : BitVec 8) : Word := code ++ op

/-- The CMD word of a group command: the group number in the low byte (R66). -/
def groupWord (code : BitVec 8) (g : Fin 8) : Word := cmdWord code (BitVec.ofNat 8 g.val)

/-- The access that a host access row is, and none for the rows that are no host access. -/
def accessOf : Instr → Option Access
  | .timebaseStart _ op => some (.write 0x04 (cmdWord 0x20 op))
  | .timebaseStop _ op => some (.write 0x04 (cmdWord 0x21 op))
  | .periodCodeWrite _ w => some (.write 0x08 w)
  | .epochWrite _ w => some (.write 0x08 w)
  | .lineFieldWrite _ w => some (.write 0x08 w)
  | .receiverEnabledWrite _ w => some (.write 0x08 w)
  | .agentEnabledWrite _ w => some (.write 0x08 w)
  | .silenceLimitWrite _ w => some (.write 0x08 w)
  | .linkRestart _ op => some (.write 0x04 (cmdWord 0x32 op))
  | .linkClearCounts _ op => some (.write 0x04 (cmdWord 0x33 op))
  | .groupStart _ g => some (.write 0x04 (groupWord 0x01 g))
  | .groupHold _ g => some (.write 0x04 (groupWord 0x02 g))
  | .groupResume _ g => some (.write 0x04 (groupWord 0x03 g))
  | .groupStop _ g => some (.write 0x04 (groupWord 0x04 g))
  | .groupCapture _ g => some (.write 0x04 (groupWord 0x05 g))
  | .groupClear _ g => some (.write 0x04 (groupWord 0x06 g))
  | .groupReload _ g => some (.write 0x04 (groupWord 0x07 g))
  | .countingReset _ op => some (.write 0x04 (cmdWord 0x40 op))
  | .counterFieldWrite _ w => some (.write 0x08 w)
  | .counterGroupWrite _ w => some (.write 0x08 w)
  | .valuePresetWrite _ w => some (.write 0x08 w)
  | .groupFieldWrite _ w => some (.write 0x08 w)
  | .queueRelease _ op => some (.write 0x04 (cmdWord 0x10 op))
  | .queueFlush _ op => some (.write 0x04 (cmdWord 0x11 op))
  | .watermarkWrite _ w => some (.write 0x0C w)
  | .irqstatWrite _ w => some (.write 0x02 w)
  | .irqenWrite _ w => some (.write 0x03 w)
  | .tableFetch _ offset => some (.read offset)
  | .readOnlyTableWrite _ w => some (.write 0x08 w)
  | .unknownCommand _ w => some (.write 0x04 w)
  | .registerWrite _ offset w => some (.write offset w)
  | .deviceReset _ op _ => some (.write 0x04 (cmdWord 0x4F op))
  | .tableCommitRange _ w => some (.write 0x08 w)
  | .groupOperandRange _ w => some (.write 0x04 w)
  | .readonlyFieldWrite _ w => some (.write 0x08 w)
  | _ => none

end Sys2Proof
end

