-- ==== Sys2Proof/Config.lean ====
section
/-! DEFINITION. What the part fixes once and for all (its sizes and constants, as the manual states them), and the one
value that the manual leaves open and the machine goes on from: an order of reports, held free. -/

namespace Sys2Proof.Config

/-- Number of records the store may hold (R123). -/
def maxRecords : Nat := 64

/-- Number of value entries the records of the store may hold together (R123). -/
def maxValues : Nat := 256

/-- Members a group may have (R55). -/
def maxMembers : Nat := 8

/-- IDENT reads 3208h (R161). -/
def ident : Word := 0x3208

/-- CAPS reads 77F7h (R161). -/
def caps : Word := 0x77F7

/-- FREE VALUE (log entry 3). The manual does not say in which order the STALL_LOSS reports of several groups leave the
Count Engine when one source event is the first loss of several stalls (R58, R78). The reports leave in rising rank; the
rank of group g at the n-th such event is this uninterpreted constant, so no proof can lean on an order. -/
opaque stallReportRank : Nat → Fin 8 → Nat

end Sys2Proof.Config
end

