-- ==== Sys2Proof/Machine/State.lean ====
section
/-! DEFINITION. The state of the DT3208 as plain data, block by block as the manual divides it, the messages in flight
between the blocks, the part's own bus cycle, the reset values, and the queue of waiting commands. What changes the state
stands in the other files of Machine/. -/

namespace Sys2Proof.Machine

/-! ## Timebase (chapter 1) -/

/-- STOPPED, or RUNNING with the one interval in progress. The interval is held as the period code it began with, which
fixes its length to its end (R2, R3). -/
inductive TimebaseState where
  | stopped
  | running (intervalCode : BitVec 4)
  deriving DecidableEq, Repr

/-- What the Timebase holds (section 1.1). -/
structure Timebase where
  state : TimebaseState
  periodCode : BitVec 4
  epoch : Epoch
  deriving DecidableEq, Repr

/-! ## Line Inputs (chapter 1) -/

/-- The edge a line reports (R11). -/
inductive Edge where
  | rising | falling | both
  deriving DecidableEq, Repr

/-- A line record (R11). `level` is the recognised level, high or low. -/
structure Line where
  enabled : Bool
  edge : Edge
  level : Bool
  deriving DecidableEq, Repr

/-! ## Tally Receiver (chapter 2) -/

/-- The reception state (section 2.2). RECEIVING holds the number of bits collected, 0 to 31, and those bits, the latest
lowest. -/
inductive Reception where
  | off
  | sync
  | wait
  | receiving (count : Fin 32) (bits : BitVec 32)
  deriving DecidableEq, Repr

/-- The receiver record (R24), the reception state (R18), and whether the quiet measurement has passed 4 µs (R17). -/
structure Receiver where
  enabled : Bool
  checkErrors : BitVec 16
  framingErrors : BitVec 16
  unexpected : BitVec 16
  reception : Reception
  quiet : Bool
  deriving DecidableEq, Repr

/-- An agent's state. The expected sequence is present exactly when the agent is ACTIVE (R25). -/
inductive AgentState where
  | silent
  | active (expected : BitVec 4)
  | lost
  deriving DecidableEq, Repr

/-- An agent record (R25). -/
structure Agent where
  enabled : Bool
  state : AgentState
  silenceLimit : BitVec 8
  silenceElapsed : BitVec 8
  accepted : BitVec 16
  missed : BitVec 16
  timesLost : BitVec 8
  deriving DecidableEq, Repr

/-! ## Count Engine (chapters 3 to 6) -/

/-- The sources of the catalogue (R15). -/
inductive Source where
  | none
  | line (n : Fin 16)
  | channel (a : Fin 8) (c : Fin 4)
  | tick
  | overflow (k : Fin 32)
  | placed (g : Fin 8)
  deriving DecidableEq, Repr

/-- The counting modes (R42). -/
inductive Mode where
  | sum | inBand | outBand | enterBand
  deriving DecidableEq, Repr

/-- A counter record (R39). `group` is absent for NONE. -/
structure Counter where
  enabled : Bool
  group : Option (Fin 8)
  source : Source
  mode : Mode
  bandLow : BitVec 12
  bandHigh : BitVec 12
  overflowCapture : Bool
  value : Tally
  preset : Tally
  inside : Bool
  wrapped : Bool
  stale : Bool
  deriving DecidableEq, Repr

/-- The state a stalled group goes back to (R65). -/
inductive ReturnState where
  | running | held
  deriving DecidableEq, Repr

/-- A group's state. The return state is present exactly while the group is STALLED (R65). -/
inductive GroupState where
  | idle
  | running
  | held
  | stalled (back : ReturnState)
  deriving DecidableEq, Repr

/-- What becomes of a draft that does not fit (R62, R127). -/
inductive Policy where
  | wait | drop
  deriving DecidableEq, Repr

/-- The part of a group record that the Count Engine keeps (R62). The member list is not stored: it is read from the
counters (section 4.2). `chainNext` is absent for END. -/
structure Group where
  state : GroupState
  policy : Policy
  holdAfter : Bool
  reloadAfter : Bool
  period : BitVec 16
  countdown : BitVec 16
  chainNext : Option (Fin 8)
  outstanding : Bool
  stallNoted : Bool
  missed : BitVec 16
  lost : BitVec 32
  deriving DecidableEq, Repr

/-- The cause a draft or a record shows, with the fields that are present with it (R96). -/
inductive Cause where
  | host
  | periodic
  | overflow (set : CounterSet)
  | chain (origin : Fin 8) (hop : Nat)
  deriving DecidableEq, Repr

/-- A value entry of a draft or a record (R96). -/
structure Entry where
  counter : Fin 32
  value : Tally
  wrapped : Bool
  stale : Bool
  deriving DecidableEq, Repr

/-- A draft (R96). -/
structure Draft where
  group : Fin 8
  cause : Cause
  chainTag : Option (BitVec 8)
  captureEpoch : Epoch
  policy : Policy
  entries : List Entry
  deriving DecidableEq, Repr

/-- A chain request (R109). `visited` is a set, in the order its groups were captured. -/
structure ChainRequest where
  origin : Fin 8
  chainTag : BitVec 8
  visited : List (Fin 8)
  hop : Nat
  target : Fin 8
  deriving DecidableEq, Repr

/-! ## Snapshot Queue (chapter 7) -/

/-- A record: a placed draft without its policy (R124). `placementEpoch` is absent for a record placed at once. -/
structure Record where
  group : Fin 8
  cause : Cause
  chainTag : Option (BitVec 8)
  captureEpoch : Epoch
  entries : List Entry
  sequence : BitVec 16
  placementEpoch : Option Epoch
  deriving DecidableEq, Repr

/-- What the queue holds (R122). Records and waiting drafts are oldest first. -/
structure Queue where
  records : List Record
  valueUse : Nat
  waitList : List Draft
  sequence : BitVec 16
  watermark : BitVec 16
  placed : Vector (BitVec 16) 8
  dropped : Vector (BitVec 16) 8
  abandoned : Vector (BitVec 16) 8
  deriving DecidableEq, Repr

/-! ## Event Controller (chapter 8) -/

/-- The kinds of error report (R148). -/
inductive ErrorKind where
  | check | framing | unexpected | seqGap | dropped | missed | stallLoss | loop | idleTarget
  deriving DecidableEq, Repr

/-- The four status flags that report no error (R152). -/
inductive StatusFlag where
  | level | ovfrec | wait | agent
  deriving DecidableEq, Repr

/-- The first error of a class (R149). `subject` is absent for CHECK and FRAMING. -/
structure FirstError where
  kind : ErrorKind
  subject : Option (Fin 8)
  epoch : Epoch
  deriving DecidableEq, Repr

/-- A class record (R146): `clear` is detected no, with no first error and further errors 0; `detected` holds the first error
and the further errors counted behind it, so that the first error is present exactly while detected is yes. -/
inductive ClassRecord where
  | clear
  | detected (first : FirstError) (further : BitVec 8)
  deriving DecidableEq, Repr

/-- What the Event Controller holds (R146). The enables are in the layout of IRQEN (R162). `irq` is IRQn asserted. -/
structure EventController where
  link : ClassRecord
  loss : ClassRecord
  chain : ClassRecord
  level : Bool
  ovfrec : Bool
  wait : Bool
  agent : Bool
  enables : BitVec 7
  irq : Bool
  deriving DecidableEq, Repr

/-! ## Messages in flight (R16, R100, R110, R147) -/

/-- What travels from the Tally Receiver to the Count Engine (R35). -/
inductive LinkMessage where
  | channel (a : Fin 8) (c : Fin 4) (amount : Amount)
  | agentDown (a : Fin 8)
  deriving DecidableEq, Repr

/-- What travels on the draft path (section 5.5). -/
inductive DraftMessage where
  | draft (d : Draft)
  | withdraw (g : Fin 8)
  deriving DecidableEq, Repr

/-- The kinds of answer (section 5.6). -/
inductive AnswerKind where
  | taken | waiting | refused | placed | abandoned
  deriving DecidableEq, Repr

/-- An answer names its kind and the group of its draft (R145). -/
structure Answer where
  kind : AnswerKind
  group : Fin 8
  deriving DecidableEq, Repr

/-- What travels to the Event Controller: an error report or a status event (R147, R148). -/
inductive Notice where
  | error (kind : ErrorKind) (subject : Option (Fin 8))
  | status (flag : StatusFlag)
  deriving DecidableEq, Repr

/-- The messages in flight, each path oldest first. Ticks are alike, so a path of ticks is their number. -/
structure Paths where
  lineEvents : List (Fin 16)
  linkToEngine : List LinkMessage
  ticksToEngine : Nat
  ticksToReceiver : Nat
  overflows : List (Fin 32)
  placements : List (Fin 8)
  chainRequests : List ChainRequest
  draftPath : List DraftMessage
  answers : List Answer
  fromReceiver : List Notice
  fromEngine : List Notice
  fromQueue : List Notice
  deriving DecidableEq, Repr

/-! ## Host Port (chapter 9) -/

/-- The result codes (R164). -/
inductive ResultCode where
  | ok | busy | state | range | locked | full | empty | unknown | readonly
  deriving DecidableEq, Repr

/-- RESULT, the selections and the latches (section 9.7). `latchHigh` is TDATA2, `latchMid` TDATA1, `latchLow` TDATA0. -/
structure HostPort where
  result : ResultCode
  tsel : Word
  tfield : BitVec 8
  absent : Bool
  latchHigh : Word
  latchMid : Word
  latchLow : Word
  deriving DecidableEq, Repr

/-- The cycle state (section 9.2). -/
inductive CycleState where
  | free | pending | done
  deriving DecidableEq, Repr

/-- A bus cycle whose access is not answered yet, and whether its strobe ended before RDYn went low (R159). -/
structure BusCycle where
  access : Access
  cut : Bool
  deriving DecidableEq, Repr

/-- The host bus as the Host Port keeps it (R158, R159): the cycle state; the access passed on to its owner and not yet
answered; the cycles held behind it, oldest first; CSn as the last cycle left it; a cycle with both strobes low; and the
word that the part drives on D15 to D0. -/
structure Bus where
  cycle : CycleState
  unanswered : Option BusCycle
  held : List BusCycle
  csLow : Bool
  bothLow : Bool
  data : Option Word
  deriving DecidableEq, Repr

/-! ## The part -/

/-- Whether the part runs, is held in reset by RESETn or at power-up (`resetting`), or recovers from a reset after RESETn has
returned high (`recovering`) (R175). -/
inductive PartMode where
  | running
  | resetting
  | recovering
  deriving DecidableEq, Repr

/-- The whole state. `freeCount` is the model's own counter of free choices (log entry 3), and `pending` the queue of
commands that wait, oldest first; the manual names neither. -/
structure State where
  timebase : Timebase
  lines : Vector Line 16
  receiver : Receiver
  agents : Vector Agent 8
  counters : Vector Counter 32
  groups : Vector Group 8
  chainTag : BitVec 8
  queue : Queue
  events : EventController
  host : HostPort
  bus : Bus
  mode : PartMode
  paths : Paths
  freeCount : Nat
  pending : List Instr
  deriving DecidableEq, Repr

/-- No command of this part stops it: the manual gives every command an effect in every state, so no fault is raised. -/
inductive Fault where
  deriving DecidableEq, Repr

/-- Why a command has no meaning. Safe: the model stops where the part would go on. -/
inductive Refusal where
  /-- Raised by `exec` for a command that has no meaning in this model yet. Safe. -/
  | notModelled (mnemonic : String)
  deriving DecidableEq, Repr

/-! ## Reset values -/

/-- R1. -/
def Timebase.reset : Timebase where
  state := .stopped
  periodCode := 9
  epoch := 0

/-- R11. The level is an input; low is a DESIGN CHOICE (log entry 1). -/
def Line.reset : Line where
  enabled := false
  edge := .rising
  level := false

/-- R17, R24, R38. -/
def Receiver.reset : Receiver where
  enabled := false
  checkErrors := 0
  framingErrors := 0
  unexpected := 0
  reception := .off
  quiet := false

/-- R25. -/
def Agent.reset : Agent where
  enabled := false
  state := .silent
  silenceLimit := 0
  silenceElapsed := 0
  accepted := 0
  missed := 0
  timesLost := 0

/-- R39. -/
def Counter.reset : Counter where
  enabled := false
  group := none
  source := .none
  mode := .sum
  bandLow := 0
  bandHigh := 4095
  overflowCapture := false
  value := 0
  preset := 0
  inside := false
  wrapped := false
  stale := false

/-- R62, R83. -/
def Group.reset : Group where
  state := .idle
  policy := .wait
  holdAfter := false
  reloadAfter := false
  period := 0
  countdown := 0
  chainNext := none
  outstanding := false
  stallNoted := false
  missed := 0
  lost := 0

/-- R122. -/
def Queue.reset : Queue where
  records := []
  valueUse := 0
  waitList := []
  sequence := 0
  watermark := 16
  placed := Vector.replicate 8 0
  dropped := Vector.replicate 8 0
  abandoned := Vector.replicate 8 0

/-- R146. -/
def EventController.reset : EventController where
  link := ClassRecord.clear
  loss := ClassRecord.clear
  chain := ClassRecord.clear
  level := false
  ovfrec := false
  wait := false
  agent := false
  enables := 0
  irq := false

/-- No message in flight (R16, R174). -/
def Paths.empty : Paths where
  lineEvents := []
  linkToEngine := []
  ticksToEngine := 0
  ticksToReceiver := 0
  overflows := []
  placements := []
  chainRequests := []
  draftPath := []
  answers := []
  fromReceiver := []
  fromEngine := []
  fromQueue := []

/-- R173. -/
def HostPort.reset : HostPort where
  result := .ok
  tsel := 0
  tfield := 0
  absent := false
  latchHigh := 0
  latchMid := 0
  latchLow := 0

/-- R173, R175: FREE, no cycle, nothing driven. CSn high is a DESIGN CHOICE (log entry 1). -/
def Bus.reset : Bus where
  cycle := .free
  unanswered := none
  held := []
  csLow := false
  bothLow := false
  data := none

/-- The part right after a device reset has ended, every line low, no command waiting. -/
def State.reset : State where
  timebase := Timebase.reset
  lines := Vector.replicate 16 Line.reset
  receiver := Receiver.reset
  agents := Vector.replicate 8 Agent.reset
  counters := Vector.replicate 32 Counter.reset
  groups := Vector.replicate 8 Group.reset
  chainTag := 0
  queue := Queue.reset
  events := EventController.reset
  host := HostPort.reset
  bus := Bus.reset
  mode := .running
  paths := Paths.empty
  freeCount := 0
  pending := []

end Sys2Proof.Machine
end

