-- ==== Sys2Proof/Machine/Window.lean ====
section
/-! DEFINITION. The register window as it reads: the word of each register (R138, R160 to R162). -/

namespace Sys2Proof.Machine

/-- The detected field of a class record (R146). -/
def ClassRecord.isDetected : ClassRecord → Bool
  | .clear => false
  | .detected _ _ => true

/-- The seven flags in the layout of IRQSTAT: bit 0 LEVEL, 1 OVFREC, 2 WAIT, 3 AGENT, 4 LINK, 5 LOSS, 6 CHAIN (R162). The
three class flags are the detected fields of the class records (R151, R152). -/
def EventController.flags (e : EventController) : BitVec 7 :=
  BitVec.ofBool e.chain.isDetected ++ BitVec.ofBool e.loss.isDetected ++ BitVec.ofBool e.link.isDetected ++
    BitVec.ofBool e.agent ++ BitVec.ofBool e.wait ++ BitVec.ofBool e.ovfrec ++ BitVec.ofBool e.level

/-- The value use in quarters, rounded up (R138). -/
def Queue.quarters (q : Queue) : Nat := (q.valueUse + 3) / 4

/-- The sixteen recognised levels: line n in bit n, high as 1 (R11). -/
def State.levels (s : State) : Word :=
  (List.finRange 16).foldl (fun m n => if s.lines[n].level then m ||| (1#16 <<< n.val) else m) 0

/-- The number of a result code (R164). -/
def ResultCode.number : ResultCode → Nat
  | .ok => 0
  | .busy => 1
  | .state => 2
  | .range => 3
  | .locked => 4
  | .full => 5
  | .empty => 6
  | .unknown => 7
  | .readonly => 8

/-- The word that a read of a window register returns (R138, R141, R153, R156, R160 to R162, R165, R167), taken when the read
is answered: TDATA0 has by then fetched, and returns the new bits 15 to 0 (R166). -/
def State.windowWord (s : State) (offset : BitVec 6) : Word :=
  match offset.toNat with
  | 0x00 => Config.ident
  | 0x01 => Config.caps
  | 0x02 => s.events.flags.setWidth 16
  | 0x03 => s.events.enables.setWidth 16
  | 0x05 => BitVec.ofNat 16 s.host.result.number
  | 0x06 => s.host.tsel
  | 0x07 => BitVec.ofBool s.host.absent ++ (0 : BitVec 7) ++ s.host.tfield
  | 0x08 => s.host.latchLow
  | 0x09 => s.host.latchMid
  | 0x0A => s.host.latchHigh
  | 0x0B => BitVec.ofNat 8 s.queue.quarters ++ BitVec.ofNat 8 s.queue.records.length
  | 0x0C => s.queue.watermark
  | 0x0D => s.levels
  | _ => 0

end Sys2Proof.Machine
end

