-- ==== Sys2Proof/Machine/Ops.lean ====
section
/-! DEFINITION. The named operations that the meanings share: reading and changing the records, counting with a stop at the
largest value, sending on the paths, and the bus cycle in which the host makes an access and gets its result. -/

namespace Sys2Proof.Machine

/-- What a step answers. -/
abbrev Answered := Host.Outcome State Fault Refusal

/-! ## Counting -/

/-- One more, stopping at the largest value (a saturating count). -/
def satInc {n : Nat} (x : BitVec n) : BitVec n := if x = BitVec.allOnes n then x else x + 1

/-- `x + k`, stopping at the largest value. -/
def satAdd {n : Nat} (x : BitVec n) (k : Nat) : BitVec n := BitVec.ofNat n (min (x.toNat + k) (2 ^ n - 1))

/-- A yes or no field as the host reads it: 1 or 0 (R170). -/
def bit48 (b : Bool) : Latch := if b then 1 else 0

/-! ## Records -/

/-- The numbers of all counters, groups, agents and lines, ascending. -/
def counterIds : List (Fin 32) := List.finRange 32
/-- See `counterIds`. -/
def groupIds : List (Fin 8) := List.finRange 8
/-- See `counterIds`. -/
def agentIds : List (Fin 8) := List.finRange 8

/-- The record of counter Ck. -/
def State.counter (s : State) (k : Fin 32) : Counter := s.counters[k]
/-- The record of group Gg. -/
def State.group (s : State) (g : Fin 8) : Group := s.groups[g]
/-- The record of agent Aa. -/
def State.agent (s : State) (a : Fin 8) : Agent := s.agents[a]
/-- The record of line Ln. -/
def State.line (s : State) (n : Fin 16) : Line := s.lines[n]

/-- Every counter's record changed by f, which also gets the counter's number. -/
def State.mapCounters (s : State) (f : Fin 32 → Counter → Counter) : State :=
  { s with counters := Vector.ofFn fun k => f k s.counters[k] }
/-- Every group's record changed by f. -/
def State.mapGroups (s : State) (f : Fin 8 → Group → Group) : State :=
  { s with groups := Vector.ofFn fun g => f g s.groups[g] }
/-- Every agent's record changed by f. -/
def State.mapAgents (s : State) (f : Fin 8 → Agent → Agent) : State :=
  { s with agents := Vector.ofFn fun a => f a s.agents[a] }

/-- Counter Ck's record changed by f. -/
def State.modifyCounter (s : State) (k : Fin 32) (f : Counter → Counter) : State :=
  { s with counters := s.counters.set k (f s.counters[k]) }
/-- Group Gg's record changed by f. -/
def State.modifyGroup (s : State) (g : Fin 8) (f : Group → Group) : State :=
  { s with groups := s.groups.set g (f s.groups[g]) }
/-- Agent Aa's record changed by f. -/
def State.modifyAgent (s : State) (a : Fin 8) (f : Agent → Agent) : State :=
  { s with agents := s.agents.set a (f s.agents[a]) }
/-- Line Ln's record changed by f. -/
def State.modifyLine (s : State) (n : Fin 16) (f : Line → Line) : State :=
  { s with lines := s.lines.set n (f s.lines[n]) }

/-- The counter is a member of group Gg: its group field names the group (R64). -/
def Counter.isMember (c : Counter) (g : Fin 8) : Bool := decide (c.group = some g)

/-- The member list of group Gg, ascending (R55, R64). -/
def State.members (s : State) (g : Fin 8) : List (Fin 32) := counterIds.filter fun k => (s.counter k).isMember g

/-- The records of group Gg's members changed by f. -/
def State.mapMembers (s : State) (g : Fin 8) (f : Counter → Counter) : State :=
  s.mapCounters fun _ c => if c.isMember g then f c else c

/-- The set of the counters of a list, as a mask (R170). -/
def maskOf (ks : List (Fin 32)) : CounterSet := ks.foldl (fun m k => m ||| (1#32 <<< k.val)) 0

/-! ## Sending (R16, R100, R110, R147): a message joins its path at the end -/

/-- LINE(n) to the Count Engine. -/
def State.sendLine (s : State) (n : Fin 16) : State :=
  { s with paths := { s.paths with lineEvents := s.paths.lineEvents ++ [n] } }
/-- A CHANNEL event or an AGENT_DOWN notice to the Count Engine. -/
def State.sendLink (s : State) (m : LinkMessage) : State :=
  { s with paths := { s.paths with linkToEngine := s.paths.linkToEngine ++ [m] } }
/-- One tick to the Count Engine and one to the Tally Receiver (R3, R10). -/
def State.sendTicks (s : State) : State :=
  { s with paths := { s.paths with ticksToEngine := s.paths.ticksToEngine + 1, ticksToReceiver := s.paths.ticksToReceiver + 1 } }
/-- OVERFLOW events, in this order. -/
def State.sendOverflows (s : State) (ks : List (Fin 32)) : State :=
  { s with paths := { s.paths with overflows := s.paths.overflows ++ ks } }
/-- PLACED(g). -/
def State.sendPlacement (s : State) (g : Fin 8) : State :=
  { s with paths := { s.paths with placements := s.paths.placements ++ [g] } }
/-- A chain request. -/
def State.sendChain (s : State) (r : ChainRequest) : State :=
  { s with paths := { s.paths with chainRequests := s.paths.chainRequests ++ [r] } }
/-- DRAFT or WITHDRAW to the Snapshot Queue. -/
def State.sendDraft (s : State) (m : DraftMessage) : State :=
  { s with paths := { s.paths with draftPath := s.paths.draftPath ++ [m] } }
/-- An answer to the Count Engine. -/
def State.sendAnswer (s : State) (kind : AnswerKind) (g : Fin 8) : State :=
  { s with paths := { s.paths with answers := s.paths.answers ++ [⟨kind, g⟩] } }
/-- A report or status event to the Event Controller from the Tally Receiver. -/
def State.receiverNotice (s : State) (m : Notice) : State :=
  { s with paths := { s.paths with fromReceiver := s.paths.fromReceiver ++ [m] } }
/-- A report to the Event Controller from the Count Engine. -/
def State.engineNotice (s : State) (m : Notice) : State :=
  { s with paths := { s.paths with fromEngine := s.paths.fromEngine ++ [m] } }
/-- A report or status event to the Event Controller from the Snapshot Queue. -/
def State.queueNotice (s : State) (m : Notice) : State :=
  { s with paths := { s.paths with fromQueue := s.paths.fromQueue ++ [m] } }

/-! ## Host accesses -/

/-- The state with RESULT set (R164). -/
def State.withResult (s : State) (r : ResultCode) : State := { s with host := { s.host with result := r } }

/-- What the Host Port does with an owner's answer to a command: the code goes to RESULT (R163). -/
def latchResult (x : State × ResultCode) : State := x.1.withResult x.2

/-- The 48-bit value of a commit: TDATA2, TDATA1 and the word written (R168). -/
def HostPort.commitValue (h : HostPort) (w : Word) : Latch := h.latchHigh ++ h.latchMid ++ w

/-- A commit of word w: the low latch takes the word, ABSENT becomes 0, the owner judges the 48-bit value, and its code goes
to RESULT (R165, R168). -/
def commit (w : Word) (owner : Latch → State → State × ResultCode) (s : State) : State :=
  latchResult (owner (s.host.commitValue w) { s with host := { s.host with latchLow := w, absent := false } })

/-- The field that TSEL and TFIELD select now (R169). -/
def State.selected (s : State) : Option Selection := selection s.host.tsel s.host.tfield

/-- Every cycle not yet answered has had its strobe go high, so that a new cycle can be recognised (R158). -/
def Bus.strobeHigh (b : Bus) : Bool := b.unanswered.all (·.cut) && b.held.all (·.cut)

/-- A cycle for `acc` is recognised (R158). From FREE, and from DONE once its strobe has gone high, the access is passed on
to its owner. While an earlier access is unanswered, or the part is in recovery from a reset, the cycle is held (R159,
R175). While an earlier strobe is still low no cycle begins, and in reset the strobes are ignored (R175). -/
def Bus.recognise (b : Bus) (mode : PartMode) (acc : Access) (cut : Bool) (csLow : Bool) : Bus :=
  match mode, b.cycle with
  | .resetting, _ => b
  | .running, .free => { b with cycle := .pending, unanswered := some ⟨acc, cut⟩, csLow := csLow, bothLow := false, data := none }
  | .running, .done => { b with cycle := .pending, unanswered := some ⟨acc, cut⟩, csLow := csLow, bothLow := false, data := none }
  | _, _ =>
    if b.strobeHigh then
      { b with cycle := .pending, held := b.held ++ [⟨acc, cut⟩], csLow := csLow, bothLow := false, data := none }
    else b

/-- The strobe of the latest cycle has gone high before RDYn went low (R159). The latest cycle is the last one held, or the
one passed on when none is held; nothing changes when it is another access's or has been cut short already, nor in reset,
where the strobes are ignored (R175). -/
def Bus.cutLatest (b : Bus) (mode : PartMode) (acc : Access) (csHigh : Bool) : Bus :=
  match mode, b.held.getLast? with
  | .resetting, _ => b
  | _, some ⟨a, false⟩ => if a = acc then { b with held := b.held.dropLast ++ [⟨a, true⟩], csLow := !csHigh } else b
  | _, some ⟨_, true⟩ => b
  | _, none =>
    match b.unanswered with
    | some ⟨a, false⟩ => if a = acc then { b with unanswered := some ⟨a, true⟩, csLow := !csHigh } else b
    | _ => b

/-- The owner's answer is latched (R158, R159). The cycle goes to DONE, and a read drives its word; or, where its strobe has
ended, to FREE, or stays PENDING while another cycle is held. -/
def Bus.answer (b : Bus) (word : Option Word) : Bus :=
  match b.unanswered with
  | some ⟨_, true⟩ => { b with unanswered := none, cycle := if b.held.isEmpty then .free else .pending }
  | _ => { b with unanswered := none, cycle := .done, bothLow := false, csLow := true, data := word }

/-- The word that a read access puts on the data lines when it is answered (R158). -/
def wordDriven (acc : Access) (s : State) : Option Word :=
  match acc with
  | .read offset => some (s.windowWord offset)
  | .write _ _ => none

/-- The bus replaced. -/
def State.withBus (s : State) (b : Bus) : State := { s with bus := b }

/-- The owner takes the access: its effect happens, and the answer is latched. -/
def answerAccess (acc : Access) (effect : State → State) (s : State) : State :=
  (effect s).withBus ((effect s).bus.answer (wordDriven acc (effect s)))

/-- The owner can take a whole cycle for the access now: the part runs, no access is unanswered and none is held. -/
def State.busReady (s : State) : Bool := decide (s.mode = .running) && decide (s.bus.cycle ≠ .pending)

/-- The access has been passed on to its owner and is not answered yet. -/
def State.passedOn (s : State) (acc : Access) : Bool :=
  decide (s.mode = .running) && decide (s.bus.unanswered.map (·.access) = some acc)

/-- One phase of a host access (R158, R159; log entries 2 and 8). `mine` says whether the access is this row's in the state
in which the owner takes it; where the phase cannot come in this state, nothing happens. -/
def hostAccess (c : CyclePhase) (acc : Access) (mine : State → Bool) (effect : State → State) (s : State) : Answered :=
  match c with
  | .whole =>
    if s.busReady && mine s then
      .next (answerAccess acc effect (s.withBus (s.bus.recognise s.mode acc false true)))
    else .next s
  | .begun => .next (s.withBus (s.bus.recognise s.mode acc false true))
  | .cutShort csHigh =>
    if s.bus.strobeHigh then .next (s.withBus (s.bus.recognise s.mode acc true (!csHigh)))
    else .next (s.withBus (s.bus.cutLatest s.mode acc csHigh))
  | .taken => if s.passedOn acc && mine s then .next (answerAccess acc effect s) else .next s

/-- A command written to CMD, taken by its owner, which returns a result code (R163). -/
def command (c : CyclePhase) (code op : BitVec 8) (owner : State → State × ResultCode) (s : State) : Answered :=
  hostAccess c (.write 0x04 (cmdWord code op)) (fun _ => true) (fun t => latchResult (owner t)) s

/-- A group command (R66): group Gg's number is the operand. -/
def groupCommand (c : CyclePhase) (code : BitVec 8) (g : Fin 8) (owner : Fin 8 → State → State × ResultCode) (s : State) :
    Answered :=
  hostAccess c (.write 0x04 (groupWord code g)) (fun _ => true) (fun t => latchResult (owner g t)) s

/-- A commit of word w judged by the owner of the selected field, if this row has one. -/
def commitTo (w : Word) (owner : Option (Latch → State → State × ResultCode)) (s : State) : State :=
  match owner with
  | some f => commit w f s
  | none => s

/-- A commit of word w to a field that `owner` answers for; `owner` is none for the fields of other rows (R168, R169). -/
def tableWrite (c : CyclePhase) (w : Word) (owner : Option Selection → Option (Latch → State → State × ResultCode))
    (s : State) : Answered :=
  hostAccess c (.write 0x08 w) (fun t => (owner t.selected).isSome)
    (fun t => commitTo w (owner t.selected) t) s

/-- An owner's refusal: a result code and no change (R164). -/
def refuse (r : ResultCode) (s : State) : State × ResultCode := (s, r)

/-- An owner's acceptance. -/
def accept (s : State) : State × ResultCode := (s, .ok)

/-! ## Events that are not accesses -/

/-- An event of the part, taken only while the part runs: in reset and in recovery it takes none (R175). -/
def event (s : State) (effect : State → State) : Answered :=
  match s.mode with
  | .running => .next (effect s)
  | .resetting => .next s
  | .recovering => .next s

end Sys2Proof.Machine
end

