-- ==== Sys2Proof/Machine/Flags.lean ====
section
/-! DEFINITION. What changes the interrupt status flags, and the judgement of the IRQn line (R149 to R157). -/

namespace Sys2Proof.Machine

/-- Some flag is set whose enable is set (R157). -/
def EventController.wantsIrq (e : EventController) : Bool := decide (e.flags &&& e.enables ≠ 0)

/-- IRQn is judged at the end of an event that changes a flag or an enable (R157). -/
def EventController.judge (e : EventController) : EventController := { e with irq := e.wantsIrq }

/-- The flag of a status event is set. -/
def EventController.isSet (e : EventController) : StatusFlag → Bool
  | .level => e.level
  | .ovfrec => e.ovfrec
  | .wait => e.wait
  | .agent => e.agent

/-- The flag of a status event made set. -/
def EventController.setFlag (e : EventController) : StatusFlag → EventController
  | .level => { e with level := true }
  | .ovfrec => { e with ovfrec := true }
  | .wait => { e with wait := true }
  | .agent => { e with agent := true }

/-- A status event sets its flag. One that finds the flag set leaves no other trace, and the line stays as it was
(R152, R157). -/
def EventController.takeStatus (e : EventController) (f : StatusFlag) : EventController :=
  if e.isSet f then e else (e.setFlag f).judge

/-- The class of a kind (R148). -/
def ErrorKind.errorClass : ErrorKind → ErrorClass
  | .check => .link
  | .framing => .link
  | .unexpected => .link
  | .seqGap => .link
  | .dropped => .loss
  | .missed => .loss
  | .stallLoss => .loss
  | .loop => .chain
  | .idleTarget => .chain

/-- The class record of a class replaced. -/
def EventController.setRecord (e : EventController) (c : ErrorClass) (r : ClassRecord) : EventController :=
  match c with
  | .link => { e with link := r }
  | .loss => { e with loss := r }
  | .chain => { e with chain := r }

/-- The class record of a class. -/
def EventController.classRecord (e : EventController) : ErrorClass → ClassRecord
  | .link => e.link
  | .loss => e.loss
  | .chain => e.chain

/-- An error report: the first of its class is kept with the epoch at which it is taken, and the line is judged; a later one
adds one to further errors, stopping at 255, and leaves the line as it was (R149, R150, R157). -/
def EventController.takeError (e : EventController) (kind : ErrorKind) (subject : Option (Fin 8)) (epoch : Epoch) :
    EventController :=
  match e.classRecord kind.errorClass with
  | .clear => (e.setRecord kind.errorClass (.detected ⟨kind, subject, epoch⟩ 0)).judge
  | .detected first further => e.setRecord kind.errorClass (.detected first (satInc further))

/-- A class record after a write of its flag's bit (R154). -/
def ClassRecord.cleared (r : ClassRecord) (bit : Bool) : ClassRecord := if bit then .clear else r

/-- A write of IRQSTAT: each flag whose bit is 1 is cleared, a class flag with its whole class record, and the line is judged
at the end (R154). -/
def EventController.writeIrqstat (e : EventController) (w : Word) : EventController :=
  EventController.judge
    { e with
      level := e.level && !w.getLsbD 0
      ovfrec := e.ovfrec && !w.getLsbD 1
      wait := e.wait && !w.getLsbD 2
      agent := e.agent && !w.getLsbD 3
      link := e.link.cleared (w.getLsbD 4)
      loss := e.loss.cleared (w.getLsbD 5)
      chain := e.chain.cleared (w.getLsbD 6) }

/-- A write of IRQEN sets all seven enables, and the line is judged (R156). -/
def EventController.writeIrqen (e : EventController) (w : Word) : EventController :=
  EventController.judge { e with enables := w.setWidth 7 }

end Sys2Proof.Machine
end

