-- ==== Sys2Proof/Machine/Operands.lean ====
section
/-! DEFINITION. The encodings of the table fields (R15, R162, R170 to R172): the numbers that a write may carry, and the
number that a fetch of each field returns. -/

namespace Sys2Proof.Machine

/-! ## Values of a write: none is refused with RANGE by the owner (R170) -/

/-- 0 for no, 1 for yes. -/
def yesNoOf (v : Latch) : Option Bool := if v = 0 then some false else if v = 1 then some true else none

/-- 0 to 7 for G0 to G7, 15 for NONE and END: the outer none is no encoding, the inner none is NONE or END. -/
def groupNumberOf (v : Latch) : Option (Option (Fin 8)) :=
  if v = 15 then some none else (finOf 8 v.toNat).map some

/-- A value of at most n bits. -/
def bitsOf (n : Nat) (v : Latch) : Option (BitVec n) := if v.toNat < 2 ^ n then some (v.setWidth n) else none

/-- The source that a code names (R15). -/
def sourceOf (v : Latch) : Option Source :=
  let n := v.toNat
  if n = 0x00 then some .none
  else if 0x01 ≤ n ∧ n ≤ 0x10 then (finOf 16 (n - 0x01)).map .line
  else if 0x20 ≤ n ∧ n ≤ 0x3F then (finOf 8 ((n - 0x20) / 4)).bind fun a => (finOf 4 ((n - 0x20) % 4)).map (.channel a)
  else if n = 0x40 then some .tick
  else if 0x60 ≤ n ∧ n ≤ 0x7F then (finOf 32 (n - 0x60)).map .overflow
  else if 0x80 ≤ n ∧ n ≤ 0x87 then (finOf 8 (n - 0x80)).map .placed
  else none

/-- The code of a source (R15). -/
def sourceCode : Source → Nat
  | .none => 0x00
  | .line n => 0x01 + n.val
  | .channel a c => 0x20 + 4 * a.val + c.val
  | .tick => 0x40
  | .overflow k => 0x60 + k.val
  | .placed g => 0x80 + g.val

/-- 0 SUM, 1 IN_BAND, 2 OUT_BAND, 3 ENTER_BAND (R170). -/
def modeOf (v : Latch) : Option Mode :=
  if v = 0 then some .sum else if v = 1 then some .inBand else if v = 2 then some .outBand
  else if v = 3 then some .enterBand else none

/-- 0 WAIT, 1 DROP (R170). -/
def policyOf (v : Latch) : Option Policy := if v = 0 then some .wait else if v = 1 then some .drop else none

/-- 0 RISING, 1 FALLING, 2 BOTH (R171). -/
def edgeOf (v : Latch) : Option Edge :=
  if v = 0 then some .rising else if v = 1 then some .falling else if v = 2 then some .both else none

/-! ## Values of a fetch -/

/-- What a fetch brings back: the 48-bit value, whether the field is absent, and the owner's code (R166). -/
structure Fetched where
  value : Latch
  absent : Bool
  code : ResultCode
  deriving DecidableEq, Repr

/-- A present field, with OK. -/
def present (v : Latch) : Fetched := ⟨v, false, .ok⟩

/-- The absent encoding: 0 with OK and ABSENT (R165). -/
def absentField : Fetched := ⟨0, true, .ok⟩

/-- A field that may be absent. -/
def maybe (v : Option Latch) : Fetched := v.elim absentField present

/-- A refused read: the latches become 0 (R166). -/
def readRefused (r : ResultCode) : Fetched := ⟨0, false, r⟩

/-- A number as a 48-bit value. -/
def num (n : Nat) : Latch := BitVec.ofNat 48 n

/-- A group number, or 15 for NONE and END (R170). -/
def groupNumber (g : Option (Fin 8)) : Latch := g.elim 15 fun x => num x.val

/-- R170. -/
def modeCode : Mode → Latch
  | .sum => 0
  | .inBand => 1
  | .outBand => 2
  | .enterBand => 3

/-- A field of table COUNTER (R57, R170). -/
def counterRead (c : Counter) : CounterField → Fetched
  | .enabled => present (bit48 c.enabled)
  | .group => present (groupNumber c.group)
  | .source => present (num (sourceCode c.source))
  | .mode => present (modeCode c.mode)
  | .bandLow => present (c.bandLow.setWidth 48)
  | .bandHigh => present (c.bandHigh.setWidth 48)
  | .overflowCapture => present (bit48 c.overflowCapture)
  | .value => present (c.value.setWidth 48)
  | .preset => present (c.preset.setWidth 48)
  | .inside => present (bit48 c.inside)
  | .wrapped => present (bit48 c.wrapped)
  | .stale => present (bit48 c.stale)

/-- R170. -/
def groupStateCode : GroupState → Latch
  | .idle => 0
  | .running => 1
  | .held => 2
  | .stalled _ => 3

/-- 1 RUNNING, 2 HELD, absent when not STALLED (R63, R170). -/
def returnStateCode : GroupState → Option Latch
  | .stalled .running => some 1
  | .stalled .held => some 2
  | _ => none

/-- The member list: the mask in bits 31:0 and the count in bits 35:32 (R64, R170). -/
def membersCode (ks : List (Fin 32)) : Latch := num (ks.length * 2 ^ 32) ||| (maskOf ks).setWidth 48

/-- A field of table GROUP (R63, R144, R170). The last three come from the Snapshot Queue. -/
def groupRead (s : State) (g : Fin 8) : GroupField → Fetched
  | .state => present (groupStateCode (s.group g).state)
  | .returnState => maybe (returnStateCode (s.group g).state)
  | .members => present (membersCode (s.members g))
  | .policy => present (match (s.group g).policy with | .wait => 0 | .drop => 1)
  | .holdAfter => present (bit48 (s.group g).holdAfter)
  | .reloadAfter => present (bit48 (s.group g).reloadAfter)
  | .period => present ((s.group g).period.setWidth 48)
  | .countdown => present ((s.group g).countdown.setWidth 48)
  | .chainNext => present (groupNumber (s.group g).chainNext)
  | .outstanding => present (bit48 (s.group g).outstanding)
  | .missed => present ((s.group g).missed.setWidth 48)
  | .lost => present ((s.group g).lost.setWidth 48)
  | .placed => present (s.queue.placed[g].setWidth 48)
  | .dropped => present (s.queue.dropped[g].setWidth 48)
  | .abandoned => present (s.queue.abandoned[g].setWidth 48)

/-- 0 SILENT, 1 ACTIVE, 2 LOST (R171). -/
def agentStateCode : AgentState → Latch
  | .silent => 0
  | .active _ => 1
  | .lost => 2

/-- Present exactly when the agent is ACTIVE (R25). -/
def AgentState.expected? : AgentState → Option (BitVec 4)
  | .active e => some e
  | _ => none

/-- A field of table AGENT (R25, R171). -/
def agentRead (a : Agent) : AgentField → Fetched
  | .enabled => present (bit48 a.enabled)
  | .state => present (agentStateCode a.state)
  | .expected => maybe (a.state.expected?.map (·.setWidth 48))
  | .silenceLimit => present (a.silenceLimit.setWidth 48)
  | .silenceElapsed => present (a.silenceElapsed.setWidth 48)
  | .accepted => present (a.accepted.setWidth 48)
  | .missed => present (a.missed.setWidth 48)
  | .timesLost => present (a.timesLost.setWidth 48)

/-- A field of table RECEIVER (R24, R171). -/
def receiverRead (r : Receiver) : ReceiverField → Fetched
  | .enabled => present (bit48 r.enabled)
  | .checkErrors => present (r.checkErrors.setWidth 48)
  | .framingErrors => present (r.framingErrors.setWidth 48)
  | .unexpected => present (r.unexpected.setWidth 48)

/-- A field of table TIMEBASE (R8, R171). -/
def timebaseRead (t : Timebase) : TimebaseField → Fetched
  | .state => present (match t.state with | .stopped => 0 | .running _ => 1)
  | .periodCode => present (t.periodCode.setWidth 48)
  | .epoch => present t.epoch

/-- A field of table LINE (R11, R171). -/
def lineRead (l : Line) : LineField → Fetched
  | .enabled => present (bit48 l.enabled)
  | .edge => present (match l.edge with | .rising => 0 | .falling => 1 | .both => 2)
  | .level => present (bit48 l.level)

/-- The kind codes of table ERROR (R172). -/
def kindCode : ErrorKind → Latch
  | .check => 1
  | .framing => 2
  | .unexpected => 3
  | .seqGap => 4
  | .dropped => 5
  | .missed => 6
  | .stallLoss => 7
  | .loop => 8
  | .idleTarget => 9

/-- The first error of a class record, if it holds one. -/
def ClassRecord.first? : ClassRecord → Option FirstError
  | .clear => none
  | .detected first _ => some first

/-- The further errors of a class record (R146). -/
def ClassRecord.further : ClassRecord → BitVec 8
  | .clear => 0
  | .detected _ further => further

/-- A field of table ERROR (R151, R172). -/
def errorRead (r : ClassRecord) : ErrorField → Fetched
  | .detected => present (bit48 r.isDetected)
  | .firstKind => maybe (r.first?.map fun e => kindCode e.kind)
  | .firstSubject => maybe (r.first?.bind fun e => e.subject.map fun x => num x.val)
  | .firstEpoch => maybe (r.first?.map (·.epoch))
  | .further => present (r.further.setWidth 48)

/-- 0 HOST, 1 PERIODIC, 2 OVERFLOW, 3 CHAIN (R172). -/
def causeCode : Cause → Latch
  | .host => 0
  | .periodic => 1
  | .overflow _ => 2
  | .chain _ _ => 3

/-- The overflow set of a cause that has one (R96). -/
def Cause.overflowSet? : Cause → Option CounterSet
  | .overflow set => some set
  | _ => none

/-- The chain origin of a cause that has one (R96). -/
def Cause.origin? : Cause → Option (Fin 8)
  | .chain o _ => some o
  | _ => none

/-- The hop of a cause that has one (R96). -/
def Cause.hop? : Cause → Option Nat
  | .chain _ h => some h
  | _ => none

/-- A field of table HEAD (R136, R172). From an empty store every field reads 0 with EMPTY. -/
def headRead (q : Queue) (f : HeadField) : Fetched :=
  match q.records with
  | [] => readRefused .empty
  | r :: _ =>
    match f with
    | .recordCount => present (num q.records.length)
    | .queueValues => present (num q.valueUse)
    | .waiting => present (num q.waitList.length)
    | .sequence => present (r.sequence.setWidth 48)
    | .group => present (num r.group.val)
    | .cause => present (causeCode r.cause)
    | .overflowSet => maybe (r.cause.overflowSet?.map (·.setWidth 48))
    | .chainOrigin => maybe (r.cause.origin?.map fun x => num x.val)
    | .hop => maybe (r.cause.hop?.map num)
    | .chainTag => maybe (r.chainTag.map (·.setWidth 48))
    | .captureEpoch => present r.captureEpoch
    | .placementEpoch => maybe r.placementEpoch
    | .valueCount => present (num r.entries.length)

/-- A field of table HEADVALUE (R137, R172): EMPTY from an empty store, RANGE beyond the head record's entries. -/
def headValueRead (q : Queue) (p : Fin 8) (f : HeadValueField) : Fetched :=
  match q.records with
  | [] => readRefused .empty
  | r :: _ =>
    match r.entries[p.val]? with
    | none => readRefused .range
    | some e =>
      match f with
      | .counter => present (num e.counter.val)
      | .value => present (e.value.setWidth 48)
      | .wrapped => present (bit48 e.wrapped)
      | .stale => present (bit48 e.stale)

/-- What the owner of a selected field answers to a read, or RANGE where nothing is selected (R166, R169). -/
def fetch (s : State) : Option Selection → Fetched
  | none => readRefused .range
  | some (.counter k f) => counterRead (s.counter k) f
  | some (.group g f) => groupRead s g f
  | some (.agent a f) => agentRead (s.agent a) f
  | some (.receiver f) => receiverRead s.receiver f
  | some (.timebase f) => timebaseRead s.timebase f
  | some (.line n f) => lineRead (s.line n) f
  | some (.error c f) => errorRead (s.events.classRecord c) f
  | some (.head f) => headRead s.queue f
  | some (.headValue p f) => headValueRead s.queue p f

end Sys2Proof.Machine
end

