-- ==== Sys2Proof/Machine/Events.lean ====
section
/-! DEFINITION. The Event Controller: error reports, status events, and the writes of IRQSTAT and IRQEN (chapter 8). -/

namespace Sys2Proof.Machine

/-- The front message of a path into the Event Controller, and the state without it (R147). -/
def frontNotice (r : Reporter) (s : State) : Option (Notice × State) :=
  match r with
  | .receiver =>
    match s.paths.fromReceiver with
    | [] => none
    | m :: rest => some (m, { s with paths := { s.paths with fromReceiver := rest } })
  | .engine =>
    match s.paths.fromEngine with
    | [] => none
    | m :: rest => some (m, { s with paths := { s.paths with fromEngine := rest } })
  | .queue =>
    match s.paths.fromQueue with
    | [] => none
    | m :: rest => some (m, { s with paths := { s.paths with fromQueue := rest } })

/-- An error report at the Event Controller, stamped with the epoch the Timebase holds now (R149, R150). -/
def takeReport (kind : ErrorKind) (subject : Option (Fin 8)) (s : State) : State :=
  { s with events := s.events.takeError kind subject s.timebase.epoch }

/-- ERROR_REPORT (R149, R150): the report at the front of a block's path arrives. With no error report there, none arrives
(log entry 2). -/
def execErrorReport (r : Reporter) (s : State) : Answered :=
  match frontNotice r s with
  | some (.error kind subject, t) => event s fun _ => takeReport kind subject t
  | _ => .next s

/-- STATUS_EVENT (R152): the status event at the front of a block's path arrives. -/
def execStatusEvent (r : Reporter) (s : State) : Answered :=
  match frontNotice r s with
  | some (.status flag, t) => event s fun _ => { t with events := t.events.takeStatus flag }
  | _ => .next s

/-- IRQSTAT_WRITE (R154). RESULT is left as it is. -/
def execIrqstatWrite (c : CyclePhase) (w : Word) (s : State) : Answered :=
  hostAccess c (.write 0x02 w) (fun _ => true) (fun t => { t with events := t.events.writeIrqstat w }) s

/-- IRQEN_WRITE (R156). RESULT is left as it is. -/
def execIrqenWrite (c : CyclePhase) (w : Word) (s : State) : Answered :=
  hostAccess c (.write 0x03 w) (fun _ => true) (fun t => { t with events := t.events.writeIrqen w }) s

end Sys2Proof.Machine
end

