-- ==== Sys2Proof/Machine/Link.lean ====
section
/-! DEFINITION. The Tally Receiver: bits, frames and their judgement, the agent records, silence aging, and the link
commands (R17 to R38). -/

namespace Sys2Proof.Machine

/-! ## Frames -/

/-- A framing error: the count rises and LINK FRAMING is reported (R19, R22). -/
def framingError (s : State) : State :=
  State.receiverNotice
    { s with receiver := { s.receiver with framingErrors := satInc s.receiver.framingErrors } } (.error .framing none)

/-- A check error: the count rises and LINK CHECK is reported (R22). -/
def checkError (s : State) : State :=
  State.receiverNotice
    { s with receiver := { s.receiver with checkErrors := satInc s.receiver.checkErrors } } (.error .check none)

/-- A good frame from an agent that is not enabled (R23). -/
def unexpectedFrame (a : Fin 8) (s : State) : State :=
  State.receiverNotice
    { s with receiver := { s.receiver with unexpected := satInc s.receiver.unexpected } } (.error .unexpected (some a))

/-- The effects of every accepted frame (R28). -/
def acceptedFrame (x : Frame) (s : State) : State :=
  let t := s.modifyAgent x.agent fun r => { r with silenceElapsed := 0, accepted := r.accepted + 1 }
  if x.keepalive then t else t.sendLink (.channel x.agent x.channel x.amount)

/-- A good frame from a SILENT or LOST agent that is enabled (R26). -/
def agentHeard (x : Frame) (s : State) : State :=
  acceptedFrame x
    ((s.modifyAgent x.agent fun r => { r with state := .active (x.sequence + 1) }).receiverNotice (.status .agent))

/-- A good frame from an ACTIVE agent, which expects sequence e (R27). -/
def agentHeardAgain (x : Frame) (e : BitVec 4) (s : State) : State :=
  let gap := x.sequence - e
  let t :=
    if x.sequence = e then s
    else (s.modifyAgent x.agent fun r => { r with missed := satAdd r.missed gap.toNat }).receiverNotice
      (.error .seqGap (some x.agent))
  acceptedFrame x (t.modifyAgent x.agent fun r => { r with state := .active (x.sequence + 1) })

/-- A good frame, judged against the record of the agent it names (R22, R23, R26, R27). -/
def goodFrame (x : Frame) (s : State) : State :=
  let r := s.agent x.agent
  if r.enabled then
    match r.state with
    | .active e => agentHeardAgain x e s
    | .silent => agentHeard x s
    | .lost => agentHeard x s
  else unexpectedFrame x.agent s

/-- A complete frame: preamble first, then the check, then the agent's record (R22). -/
def judgeFrame (f : BitVec 32) (s : State) : State :=
  if framePreamble f ≠ 0b10 then framingError s
  else if checkPasses f then goodFrame (frameOf f) s
  else checkError s

/-! ## Bits -/

/-- The reception state changed. -/
def State.withReception (s : State) (r : Reception) : State := { s with receiver := { s.receiver with reception := r } }

/-- The quiet measurement starts again from 0 (R17), or has passed 4 µs (R19). -/
def State.withQuiet (s : State) (q : Bool) : State := { s with receiver := { s.receiver with quiet := q } }

/-- The bits collected with one more stored below them: most significant first (R18). -/
def storeBit (bits : BitVec 32) (bit : Bool) : BitVec 32 := (bits <<< 1) ||| (BitVec.ofBool bit).setWidth 32

/-- A recognised rising edge of TCLK, with the bit on TDAT (R17, R18). -/
def takeBit (bit : Bool) (s : State) : State :=
  let t := s.withQuiet false
  match s.receiver.reception with
  | .off => t
  | .sync => t
  | .wait => if bit then t else t.withReception (.receiving 0 0)
  | .receiving count bits =>
    if h : count.val + 1 < 32 then t.withReception (.receiving ⟨count.val + 1, h⟩ (storeBit bits bit))
    else judgeFrame (storeBit bits bit) (t.withReception .wait)

/-- TCLK_RISING_EDGE (R18). At the thirty-second bit the frame is complete and is judged in the same event. -/
def execTclkRisingEdge (bit : Bool) (s : State) : Answered := event s (takeBit bit)

/-- The next bit completes a frame: RECEIVING with 31 bits collected (R18). -/
def State.atLastBit (s : State) : Bool :=
  match s.receiver.reception with
  | .receiving count _ => decide (count.val = 31)
  | _ => false

/-- FRAME_COMPLETE (R18, R22): the rising edge that stores the thirty-second bit. With fewer bits collected no frame
completes (log entry 2). -/
def execFrameComplete (bit : Bool) (s : State) : Answered := if s.atLastBit then event s (takeBit bit) else .next s

/-- The expiry of the quiet measurement (R19). -/
def expireQuiet (s : State) : State :=
  let t := s.withQuiet true
  match s.receiver.reception with
  | .receiving _ _ => framingError (t.withReception .wait)
  | .sync => t.withReception .wait
  | .wait => t
  | .off => t

/-- QUIET_TIME_EXPIRY (R19). -/
def execQuietTimeExpiry (s : State) : Answered := event s expireQuiet

/-! ## Agents -/

/-- An ACTIVE agent goes LOST (R30). -/
def loseAgent (a : Fin 8) (s : State) : State :=
  ((s.modifyAgent a fun r => { r with state := .lost, timesLost := satInc r.timesLost }).sendLink (.agentDown a)).receiverNotice
    (.status .agent)

/-- The agent is ACTIVE with a silence limit other than 0 (R29). -/
def Agent.ages (r : Agent) : Bool :=
  match r.state with
  | .active _ => decide (r.silenceLimit ≠ 0)
  | _ => false

/-- One more tick of silence reaches the agent's limit (R29). -/
def Agent.reachesLimit (r : Agent) : Bool := r.ages && decide (r.silenceLimit.toNat ≤ r.silenceElapsed.toNat + 1)

/-- One tick at one agent: silence elapsed rises, and at the limit the agent goes LOST (R29, R30). -/
def ageAgent (a : Fin 8) (s : State) : State :=
  let r := s.agent a
  if r.ages then
    let t := s.modifyAgent a fun x => { x with silenceElapsed := satInc x.silenceElapsed }
    if r.reachesLimit then loseAgent a t else t
  else s

/-- A tick taken at the Tally Receiver ages the agents in ascending order (R29). -/
def takeReceiverTick (s : State) : State := agentIds.foldl (fun t a => ageAgent a t) s

/-- The tick at the front of the path to the Tally Receiver taken off it. -/
def popReceiverTick (s : State) : State :=
  { s with paths := { s.paths with ticksToReceiver := s.paths.ticksToReceiver - 1 } }

/-- RECEIVER_TICK (R29). With no tick in flight to the Tally Receiver none arrives (log entry 2). -/
def execReceiverTick (s : State) : Answered :=
  if s.paths.ticksToReceiver = 0 then .next s else event s fun t => takeReceiverTick (popReceiverTick t)

/-- AGENT_LOST (R30): the tick that brings agent Aa to its limit, taken as the one event that R29 makes it (log entry 5).
Where the next tick brings the agent to no limit, or none is in flight, the agent is not lost. -/
def execAgentLost (a : Fin 8) (s : State) : Answered :=
  if s.paths.ticksToReceiver ≠ 0 ∧ (s.agent a).reachesLimit = true then
    event s fun t => takeReceiverTick (popReceiverTick t)
  else .next s

/-- An enabled agent is taken out of service (R32): ACTIVE and LOST become SILENT. -/
def disableAgent (a : Fin 8) (s : State) : State :=
  let t := s.modifyAgent a fun r => { r with enabled := false }
  let silence (u : State) : State := u.modifyAgent a fun r => { r with state := .silent, silenceElapsed := 0 }
  match (s.agent a).state with
  | .active _ => ((silence t).sendLink (.agentDown a)).receiverNotice (.status .agent)
  | .lost => (silence t).receiverNotice (.status .agent)
  | .silent => t

/-- A write of an agent's enabled field at the receiver (R32). -/
def writeAgentEnabled (a : Fin 8) (v : Latch) (s : State) : State × ResultCode :=
  match yesNoOf v with
  | none => refuse .range s
  | some b =>
    if b = (s.agent a).enabled then accept s
    else if b then accept (s.modifyAgent a fun r => { r with enabled := true })
    else accept (disableAgent a s)

/-- AGENT_ENABLED_WRITE (R32, R168). -/
def execAgentEnabledWrite (c : CyclePhase) (w : Word) (s : State) : Answered :=
  tableWrite c w (fun | some (.agent a .enabled) => some (writeAgentEnabled a) | _ => none) s

/-- A write of an agent's silence limit at the receiver (R31). -/
def writeSilenceLimit (a : Fin 8) (v : Latch) (s : State) : State × ResultCode :=
  match bitsOf 8 v with
  | none => refuse .range s
  | some x => accept (s.modifyAgent a fun r => { r with silenceLimit := x })

/-- SILENCE_LIMIT_WRITE (R31, R168). -/
def execSilenceLimitWrite (c : CyclePhase) (w : Word) (s : State) : Answered :=
  tableWrite c w (fun | some (.agent a .silenceLimit) => some (writeSilenceLimit a) | _ => none) s

/-! ## The receiver record -/

/-- A write of a field of the receiver record at the receiver (R24). -/
def writeReceiver (f : ReceiverField) (v : Latch) (s : State) : State × ResultCode :=
  match f with
  | .enabled =>
    match yesNoOf v with
    | none => refuse .range s
    | some b =>
      if b = s.receiver.enabled then accept s
      else if b then
        accept { s with receiver :=
          { s.receiver with enabled := true, reception := if s.receiver.quiet then .wait else .sync } }
      else accept { s with receiver := { s.receiver with enabled := false, reception := .off } }
  | .checkErrors => refuse .readonly s
  | .framingErrors => refuse .readonly s
  | .unexpected => refuse .readonly s

/-- RECEIVER_ENABLED_WRITE (R24, R168): a commit to table RECEIVER. -/
def execReceiverEnabledWrite (c : CyclePhase) (w : Word) (s : State) : Answered :=
  tableWrite c w (fun | some (.receiver f) => some (writeReceiver f) | _ => none) s

/-! ## Link commands -/

/-- LINK RESTART at one agent (R33). -/
def restartAgent (a : Fin 8) (s : State) : State :=
  let t := s.modifyAgent a fun r => { r with state := .silent, silenceElapsed := 0 }
  match (s.agent a).state with
  | .active _ => (t.sendLink (.agentDown a)).receiverNotice (.status .agent)
  | .lost => t.receiverNotice (.status .agent)
  | .silent => s

/-- LINK RESTART at the receiver, the agents in ascending order (R33). -/
def linkRestart (s : State) : State × ResultCode := accept (agentIds.foldl (fun t a => restartAgent a t) s)

/-- LINK_RESTART (R33). -/
def execLinkRestart (c : CyclePhase) (op : BitVec 8) (s : State) : Answered := command c 0x32 op linkRestart s

/-- LINK CLEAR COUNTS at the receiver (R34). -/
def linkClearCounts (s : State) : State × ResultCode :=
  accept (State.mapAgents
    { s with receiver := { s.receiver with checkErrors := 0, framingErrors := 0, unexpected := 0 } }
    fun _ r => { r with accepted := 0, missed := 0, timesLost := 0 })

/-- LINK_CLEAR_COUNTS (R34). -/
def execLinkClearCounts (c : CyclePhase) (op : BitVec 8) (s : State) : Answered := command c 0x33 op linkClearCounts s

end Sys2Proof.Machine
end

