-- ==== Sys2Proof/Machine/Counting.lean ====
section
/-! DEFINITION. One source event at one counter: position, qualification test, increment and wrap (R41 to R46), and what the
suspended counters of stalled groups add up to (R77, R78). -/

namespace Sys2Proof.Machine

/-- The three positions of a counter whose source is the event's (R41). -/
inductive Position where
  | counting
  | suspended
  | idle
  deriving DecidableEq, Repr

/-- The position that a group's state gives its enabled members (R41). -/
def GroupState.position : GroupState → Position
  | .running => .counting
  | .stalled _ => .suspended
  | .held => .idle
  | .idle => .idle

/-- The position of a counter, by the states its group and itself hold now (R41). -/
def State.position (s : State) (c : Counter) : Position :=
  match c.enabled, c.group with
  | true, some g => (s.group g).state.position
  | _, _ => .idle

/-- The amount is in the counter's band, both ends included (R42). -/
def Counter.inBand (c : Counter) (a : Amount) : Bool := decide (c.bandLow ≤ a) && decide (a ≤ c.bandHigh)

/-- The increment that an event of this amount gives the counter, or none where the event does not qualify (R42). -/
def Counter.increment (c : Counter) (a : Amount) : Option Nat :=
  match c.mode with
  | .sum => if a = 0 then none else some a.toNat
  | .inBand => if c.inBand a then some 1 else none
  | .outBand => if c.inBand a then none else some 1
  | .enterBand => if c.inBand a && !c.inside then some 1 else none

/-- The event qualifies (R42). -/
def Counter.qualifies (c : Counter) (a : Amount) : Bool := (c.increment a).isSome

/-- After the test, inside is whether the amount was in band, in mode ENTER_BAND alone (R43). -/
def Counter.tested (c : Counter) (a : Amount) : Counter :=
  match c.mode with
  | .enterBand => { c with inside := c.inBand a }
  | _ => c

/-- Adding this increment passes 2^40−1 (R45). -/
def Counter.passes (c : Counter) (i : Nat) : Bool := decide (2 ^ 40 - 1 < c.value.toNat + i)

/-- The increment added: past 2^40−1 the value begins again from the remainder, and wrapped becomes yes (R45, R48). -/
def Counter.add (c : Counter) (i : Nat) : Counter :=
  { c with value := BitVec.ofNat 40 (c.value.toNat + i), wrapped := c.wrapped || c.passes i }

/-- The counter after an event of its source (R41 to R45). -/
def Counter.take (c : Counter) (p : Position) (a : Amount) : Counter :=
  match p with
  | .idle => c
  | .suspended => c.tested a
  | .counting =>
    match c.increment a with
    | none => c.tested a
    | some i => (c.tested a).add i

/-- The event wraps the counter (R45). -/
def Counter.wraps (c : Counter) (p : Position) (a : Amount) : Bool :=
  match p with
  | .counting => (c.increment a).any c.passes
  | _ => false

/-- The counter loses the event to a stall: it is suspended and the event qualifies (R77). -/
def Counter.loses (c : Counter) (p : Position) (a : Amount) : Bool :=
  match p with
  | .suspended => c.qualifies a
  | _ => false

/-- The counters that an event wraps, ascending (R46). -/
def State.wrappedBy (s : State) (src : Source) (a : Amount) : List (Fin 32) :=
  counterIds.filter fun k =>
    decide ((s.counter k).source = src) && (s.counter k).wraps (s.position (s.counter k)) a

/-- The number of members of group Gg that lose an event to the group's stall (R77). -/
def State.losses (s : State) (src : Source) (a : Amount) (g : Fin 8) : Nat :=
  (s.members g).countP fun k =>
    decide ((s.counter k).source = src) && (s.counter k).loses (s.position (s.counter k)) a

/-- Every counter that selects the source takes the event (R41, R58). -/
def countEvent (src : Source) (a : Amount) (s : State) : State :=
  s.mapCounters fun _ c => if c.source = src then c.take (s.position c) a else c

/-- Insert a group into a list that stands in rising rank. -/
def insertByRank (rank : Fin 8 → Nat) (g : Fin 8) : List (Fin 8) → List (Fin 8)
  | [] => [g]
  | h :: t => if rank g ≤ rank h then g :: h :: t else h :: insertByRank rank g t

/-- The order in which the STALL_LOSS reports of one event leave: a free value where there is more than one (log entry 3). -/
def stallReportOrder (n : Nat) (gs : List (Fin 8)) : List (Fin 8) := gs.foldr (insertByRank (Config.stallReportRank n)) []

/-- The groups whose stall has its first loss in an event (R78). -/
def firstLosses (lost : Fin 8 → Nat) (s : State) : List (Fin 8) :=
  groupIds.filter fun g => decide (lost g ≠ 0) && !(s.group g).stallNoted

/-- What a group that loses n member events notes (R77, R78). -/
def Group.noteLoss (x : Group) (n : Nat) : Group :=
  if n = 0 then x else { x with lost := satAdd x.lost n, stallNoted := true }

/-- The lost increments of an event are noted, and the first loss of each stall is reported (R77, R78). -/
def noteLosses (lost : Fin 8 → Nat) (s : State) : State :=
  let first := firstLosses lost s
  let t := s.mapGroups fun g x => x.noteLoss (lost g)
  let u := (stallReportOrder s.freeCount first).foldl (fun t g => t.engineNotice (.error .stallLoss (some g))) t
  if first.length < 2 then u else { u with freeCount := u.freeCount + 1 }

end Sys2Proof.Machine
end

