-- ==== Sys2Proof/Machine/Capture.lean ====
section
/-! DEFINITION. Captures: the judgement of a capture cause, the six steps of capture taking, missed captures, and chains
(chapters 5 and 6). -/

namespace Sys2Proof.Machine

/-- A capture cause as it reaches a group: the overflow set, or the chain request, comes with it (R86, R89, R90). -/
inductive CaptureCause where
  | host
  | periodic
  | overflow (set : CounterSet)
  | chain (r : ChainRequest)
  deriving DecidableEq, Repr

/-- The cause as the draft shows it (R96). -/
def CaptureCause.shown : CaptureCause → Cause
  | .host => .host
  | .periodic => .periodic
  | .overflow set => .overflow set
  | .chain r => .chain r.origin r.hop

/-- A missed capture (R99). -/
def missCapture (g : Fin 8) (s : State) : State :=
  (s.modifyGroup g fun x => { x with missed := satInc x.missed }).engineNotice (.error .missed (some g))

/-- A member's value entry (R91). -/
def State.entry (s : State) (k : Fin 32) : Entry :=
  ⟨k, (s.counter k).value, (s.counter k).wrapped, (s.counter k).stale⟩

/-- The chain tag that a capture bears: a request's own; a new one from the tag counter where the capture starts a chain;
else none (R95, R111). -/
def State.tagFor (s : State) (g : Fin 8) (cause : CaptureCause) : Option (BitVec 8) :=
  match cause, (s.group g).chainNext with
  | .chain r, _ => some r.chainTag
  | _, some _ => some s.chainTag
  | _, none => none

/-- The tag counter after a capture: a capture that starts a chain draws the counter's value (R111). -/
def State.tagDrawn (s : State) (g : Fin 8) (cause : CaptureCause) : BitVec 8 :=
  match cause, (s.group g).chainNext with
  | .chain _, _ => s.chainTag
  | _, some _ => s.chainTag + 1
  | _, none => s.chainTag

/-- The first step: the members frozen into a draft, stamped with the epoch (R91, R96, R97). -/
def State.draftOf (s : State) (g : Fin 8) (cause : CaptureCause) : Draft where
  group := g
  cause := cause.shown
  chainTag := s.tagFor g cause
  captureEpoch := s.timebase.epoch
  policy := (s.group g).policy
  entries := (s.members g).map s.entry

/-- The second and third steps at a member: both flags become no, and with reload its value becomes its preset (R92). -/
def Counter.captured (c : Counter) (reload : Bool) : Counter :=
  { c with wrapped := false, stale := false, value := if reload then c.preset else c.value }

/-- The fourth step: a RUNNING group with hold after capture becomes HELD (R93). -/
def Group.heldAfter (x : Group) : GroupState :=
  match x.state, x.holdAfter with
  | .running, true => .held
  | st, _ => st

/-- The visited set of a request with group Gg added (R113). -/
def addVisited (g : Fin 8) (visited : List (Fin 8)) : List (Fin 8) := if g ∈ visited then visited else visited ++ [g]

/-- The sixth step, at a group whose chain next is `next`: a chain request is sent, or the chain ends at a loop
(R95, R112 to R114). `tag` is the tag that a chain starting here has drawn. -/
def passChain (g : Fin 8) (next : Option (Fin 8)) (tag : BitVec 8) (cause : CaptureCause) (s : State) : State :=
  match next with
  | none => s
  | some n =>
    match cause with
    | .chain r =>
      let visited := addVisited g r.visited
      if n ∈ visited then s.engineNotice (.error .loop (some n))
      else s.sendChain ⟨r.origin, r.chainTag, visited, visited.length, n⟩
    | _ => s.sendChain ⟨g, tag, [g], 1, n⟩

/-- Capture taking, in its six steps (section 5.2). -/
def takeCapture (g : Fin 8) (cause : CaptureCause) (s : State) : State :=
  let x := s.group g
  let d := s.draftOf g cause
  let flagged := s.mapMembers g fun c => c.captured x.reloadAfter
  let held := flagged.modifyGroup g fun y => { y with state := y.heldAfter, outstanding := true }
  let sent := State.sendDraft { held with chainTag := s.tagDrawn g cause } (.draft d)
  passChain g x.chainNext s.chainTag cause sent

/-- A group that can take a capture: RUNNING or HELD, with no draft outstanding (R87). -/
def Group.canCapture (x : Group) : Bool :=
  match x.state with
  | .running => !x.outstanding
  | .held => !x.outstanding
  | _ => false

/-- A PERIODIC or OVERFLOW cause reaching a group is taken or missed; at an IDLE group, which it cannot reach, nothing
happens (R87, R89). -/
def captureCause (g : Fin 8) (cause : CaptureCause) (s : State) : State :=
  if (s.group g).canCapture then takeCapture g cause s
  else if (s.group g).state = .idle then s
  else missCapture g s

/-- GROUP CAPTURE at its group (R87, R88). -/
def groupCapture (g : Fin 8) (s : State) : State × ResultCode :=
  if (s.group g).canCapture then accept (takeCapture g .host s)
  else if (s.group g).state = .idle then refuse .state s
  else refuse .busy s

/-- GROUP_CAPTURE (R88). -/
def execGroupCapture (c : CyclePhase) (g : Fin 8) (s : State) : Answered := groupCommand c 0x05 g groupCapture s

/-- A chain request taken at its target (R116 to R118). -/
def takeChainRequest (r : ChainRequest) (s : State) : State :=
  if (s.group r.target).canCapture then takeCapture r.target (.chain r) s
  else if (s.group r.target).state = .idle then s.engineNotice (.error .idleTarget (some r.target))
  else missCapture r.target s

/-- CHAIN_REQUEST (R110, R116): the request at the front of the chain path arrives. With none in flight nothing arrives
(log entry 2). -/
def execChainRequest (s : State) : Answered :=
  match s.paths.chainRequests with
  | [] => .next s
  | r :: rest => event s fun t => takeChainRequest r { t with paths := { t.paths with chainRequests := rest } }

end Sys2Proof.Machine
end

