-- ==== Sys2Proof/Machine/Groups.lean ====
section
/-! DEFINITION. The group commands, COUNTING RESET, and the answers of the Snapshot Queue at the Count Engine
(chapter 4, sections 5.5 and 5.6). -/

namespace Sys2Proof.Machine

/-- GROUP START at its group (R67). -/
def groupStart (g : Fin 8) (s : State) : State × ResultCode :=
  match (s.group g).state with
  | .idle =>
    if (s.group g).outstanding then refuse .busy s
    else accept ((s.modifyGroup g fun x => { x with state := .running, countdown := x.period }).mapMembers g
      fun c => { c with inside := false })
  | _ => refuse .state s

/-- GROUP_START (R67). -/
def execGroupStart (c : CyclePhase) (g : Fin 8) (s : State) : Answered := groupCommand c 0x01 g groupStart s

/-- GROUP HOLD at its group (R68). -/
def groupHold (g : Fin 8) (s : State) : State × ResultCode :=
  match (s.group g).state with
  | .idle => refuse .state s
  | .running => accept (s.modifyGroup g fun x => { x with state := .held })
  | .held => accept s
  | .stalled _ => accept (s.modifyGroup g fun x => { x with state := .stalled .held })

/-- GROUP_HOLD (R68). -/
def execGroupHold (c : CyclePhase) (g : Fin 8) (s : State) : Answered := groupCommand c 0x02 g groupHold s

/-- GROUP RESUME at its group (R69). -/
def groupResume (g : Fin 8) (s : State) : State × ResultCode :=
  match (s.group g).state with
  | .idle => refuse .state s
  | .running => accept s
  | .held => accept (s.modifyGroup g fun x => { x with state := .running })
  | .stalled _ => accept (s.modifyGroup g fun x => { x with state := .stalled .running })

/-- GROUP_RESUME (R69). -/
def execGroupResume (c : CyclePhase) (g : Fin 8) (s : State) : Answered := groupCommand c 0x03 g groupResume s

/-- A WITHDRAW is sent for a group whose draft is outstanding (R70, R82, R101). -/
def withdrawIfOutstanding (g : Fin 8) (s : State) : State :=
  if (s.group g).outstanding then s.sendDraft (.withdraw g) else s

/-- GROUP STOP at its group (R70). -/
def groupStop (g : Fin 8) (s : State) : State × ResultCode :=
  match (s.group g).state with
  | .idle => refuse .state s
  | _ => accept (withdrawIfOutstanding g (s.modifyGroup g fun x => { x with state := .idle, stallNoted := false }))

/-- GROUP_STOP (R70). -/
def execGroupStop (c : CyclePhase) (g : Fin 8) (s : State) : Answered := groupCommand c 0x04 g groupStop s

/-- The state allows the members' values to be set: IDLE or HELD (R71, R72). -/
def GroupState.settable : GroupState → Bool
  | .idle => true
  | .held => true
  | _ => false

/-- GROUP CLEAR at its group (R71). -/
def groupClear (g : Fin 8) (s : State) : State × ResultCode :=
  if (s.group g).state.settable then accept (s.mapMembers g fun c => { c with value := 0, wrapped := false, stale := false })
  else refuse .state s

/-- GROUP_CLEAR (R71). -/
def execGroupClear (c : CyclePhase) (g : Fin 8) (s : State) : Answered := groupCommand c 0x06 g groupClear s

/-- GROUP RELOAD at its group (R72). -/
def groupReload (g : Fin 8) (s : State) : State × ResultCode :=
  if (s.group g).state.settable then accept (s.mapMembers g fun c => { c with value := c.preset })
  else refuse .state s

/-- GROUP_RELOAD (R72). -/
def execGroupReload (c : CyclePhase) (g : Fin 8) (s : State) : Answered := groupCommand c 0x07 g groupReload s

/-- COUNTING RESET at one group (R82). -/
def Group.countingReset (x : Group) : Group :=
  { x with state := .idle, stallNoted := false, countdown := 0, missed := 0, lost := 0 }

/-- COUNTING RESET at one counter (R40). -/
def Counter.countingReset (c : Counter) : Counter := { c with value := 0, inside := false, wrapped := false, stale := false }

/-- COUNTING RESET at the Count Engine: the WITHDRAWs in ascending group number, every group, every counter (R40, R81, R82). -/
def countingReset (s : State) : State × ResultCode :=
  let t := groupIds.foldl (fun u g => withdrawIfOutstanding g u) s
  accept ((t.mapGroups fun _ x => x.countingReset).mapCounters fun _ c => c.countingReset)

/-- COUNTING_RESET (R81). -/
def execCountingReset (c : CyclePhase) (op : BitVec 8) (s : State) : Answered := command c 0x40 op countingReset s

/-! ## Answers -/

/-- The group of the answer at the front of the answer path, if it is of this kind. -/
def frontAnswer (kind : AnswerKind) (s : State) : Option (Fin 8) :=
  match s.paths.answers with
  | [] => none
  | x :: _ => if x.kind = kind then some x.group else none

/-- The answer at the front of the answer path taken off it. -/
def popAnswer (s : State) : State := { s with paths := { s.paths with answers := s.paths.answers.tail } }

/-- The arrival of an answer of this kind (R100). With none of this kind at the front of the path, none arrives
(log entry 2). -/
def answerArrives (kind : AnswerKind) (effect : Fin 8 → State → State) (s : State) : Answered :=
  match frontAnswer kind s with
  | none => .next s
  | some g => event s fun t => effect g (popAnswer t)

/-- A final answer clears outstanding (R100). -/
def clearOutstanding (g : Fin 8) (s : State) : State := s.modifyGroup g fun x => { x with outstanding := false }

/-- TAKEN (R102, R107). -/
def execTaken (s : State) : Answered := answerArrives .taken (fun g t => (clearOutstanding g t).sendPlacement g) s

/-- A WAITING answer at a group: RUNNING and HELD become STALLED (R73). -/
def Group.stall (x : Group) : Group :=
  match x.state with
  | .running => { x with state := .stalled .running, stallNoted := false }
  | .held => { x with state := .stalled .held, stallNoted := false }
  | _ => x

/-- WAITING (R73, R103). -/
def execWaiting (s : State) : Answered := answerArrives .waiting (fun g t => t.modifyGroup g Group.stall) s

/-- REFUSED (R104). -/
def execRefused (s : State) : Answered := answerArrives .refused clearOutstanding s

/-- A group that leaves STALLED for its return state (R74). -/
def Group.unstall (x : Group) : Group :=
  match x.state with
  | .stalled .running => { x with state := .running, stallNoted := false }
  | .stalled .held => { x with state := .held, stallNoted := false }
  | _ => x

/-- PLACED (R74, R105, R107). -/
def execPlaced (s : State) : Answered :=
  answerArrives .placed (fun g t => ((clearOutstanding g t).modifyGroup g Group.unstall).sendPlacement g) s

/-- ABANDONED (R106). -/
def execAbandoned (s : State) : Answered := answerArrives .abandoned clearOutstanding s

end Sys2Proof.Machine
end

