-- ==== Sys2Proof/Machine/Records.lean ====
section
/-! DEFINITION. Writes of the counter and group records through the table port (R51 to R56, R79, R80). -/

namespace Sys2Proof.Machine

/-- A group, or NONE, is out of service: NONE or IDLE (R51, R54). -/
def State.groupIdle (s : State) (g : Option (Fin 8)) : Bool := g.all fun x => decide ((s.group x).state = .idle)

/-- A counter's group allows its contents to be written: NONE, IDLE or HELD (R51, R56). -/
def State.groupSettable (s : State) (g : Option (Fin 8)) : Bool := g.all fun x => (s.group x).state.settable

/-- An accepted configuration write makes inside no (R53). -/
def configure (k : Fin 32) (f : Counter → Counter) (s : State) : State × ResultCode :=
  accept (s.modifyCounter k fun c => { f c with inside := false })

/-- A value that a field takes, or RANGE (R51). -/
def orRange {α : Type} (v : Option α) (f : α → State → State × ResultCode) (s : State) : State × ResultCode :=
  match v with
  | none => refuse .range s
  | some x => f x s

/-- The source that counter Ck may select by this code: any of the catalogue but its own overflow (R52). -/
def sourceFor (k : Fin 32) (v : Latch) : Option Source :=
  (sourceOf v).filter fun src => decide (src ≠ .overflow k)

/-- A value for band low that is not above the present band high (R44). -/
def bandLowFor (c : Counter) (v : Latch) : Option (BitVec 12) := (bitsOf 12 v).filter fun x => decide (x ≤ c.bandHigh)

/-- A value for band high that is not below the present band low (R44). -/
def bandHighFor (c : Counter) (v : Latch) : Option (BitVec 12) := (bitsOf 12 v).filter fun x => decide (c.bandLow ≤ x)

/-- A configuration write: LOCKED unless the counter's group is NONE or IDLE, then the value is checked (R51). -/
def configWrite {α : Type} (k : Fin 32) (v : Option α) (f : α → Counter → Counter) (s : State) : State × ResultCode :=
  if s.groupIdle (s.counter k).group then orRange v (fun x => configure k (f x)) s else refuse .locked s

/-- A write of a counter's configuration field or read-only field at the Count Engine (R51 to R53). -/
def writeCounter (k : Fin 32) (f : CounterField) (v : Latch) (s : State) : State × ResultCode :=
  match f with
  | .enabled => configWrite k (yesNoOf v) (fun b c => { c with enabled := b }) s
  | .source => configWrite k (sourceFor k v) (fun x c => { c with source := x }) s
  | .mode => configWrite k (modeOf v) (fun x c => { c with mode := x }) s
  | .bandLow => configWrite k (bandLowFor (s.counter k) v) (fun x c => { c with bandLow := x }) s
  | .bandHigh => configWrite k (bandHighFor (s.counter k) v) (fun x c => { c with bandHigh := x }) s
  | .overflowCapture => configWrite k (yesNoOf v) (fun b c => { c with overflowCapture := b }) s
  | _ => refuse .readonly s

/-- The fields of table COUNTER whose writes are COUNTER_FIELD_WRITE: all but group, value and preset (log entry 7). -/
def isPlainField : CounterField → Bool
  | .group => false
  | .value => false
  | .preset => false
  | _ => true

/-- COUNTER_FIELD_WRITE (R51, R168). -/
def execCounterFieldWrite (c : CyclePhase) (w : Word) (s : State) : Answered :=
  tableWrite c w
    (fun | some (.counter k f) => if isPlainField f then some (writeCounter k f) else none
         | _ => none) s

/-- The new group is another group than the counter's present one, and has eight members already (R54). -/
def State.groupFull (s : State) (old new : Option (Fin 8)) : Bool :=
  match new with
  | none => false
  | some g => decide (new ≠ old) && decide (Config.maxMembers ≤ (s.members g).length)

/-- The group that a written value names, where it names one: a value that is no encoding names none. -/
def namedGroup (v : Latch) : Option (Fin 8) := (groupNumberOf v).join

/-- A write of a counter's group field at the Count Engine (R54). -/
def writeMembership (k : Fin 32) (v : Latch) (s : State) : State × ResultCode :=
  let old := (s.counter k).group
  if s.groupIdle old && s.groupIdle (namedGroup v) then
    orRange (groupNumberOf v) (fun new t =>
      if s.groupFull old new then refuse .full t else configure k (fun c => { c with group := new }) t) s
  else refuse .locked s

/-- COUNTER_GROUP_WRITE (R54, R168). -/
def execCounterGroupWrite (c : CyclePhase) (w : Word) (s : State) : Answered :=
  tableWrite c w (fun | some (.counter k .group) => some (writeMembership k) | _ => none) s

/-- A write of a counter's value or preset at the Count Engine: LOCKED unless the group is NONE, IDLE or HELD, then bits 47
to 40 must be 0 (R51, R56). -/
def writeContents (k : Fin 32) (v : Latch) (f : Tally → Counter → Counter) (s : State) : State × ResultCode :=
  if s.groupSettable (s.counter k).group then orRange (bitsOf 40 v) (fun x t => accept (t.modifyCounter k (f x))) s
  else refuse .locked s

/-- VALUE_PRESET_WRITE (R56, R168). -/
def execValuePresetWrite (c : CyclePhase) (w : Word) (s : State) : Answered :=
  tableWrite c w
    (fun | some (.counter k .value) => some fun v => writeContents k v fun x c => { c with value := x }
         | some (.counter k .preset) => some fun v => writeContents k v fun x c => { c with preset := x }
         | _ => none) s

/-- A configuration write of a group: LOCKED unless IDLE, then the value is checked (R79). -/
def groupConfigWrite {α : Type} (g : Fin 8) (v : Option α) (f : α → Group → Group) (s : State) : State × ResultCode :=
  if (s.group g).state = .idle then orRange v (fun x t => accept (t.modifyGroup g (f x))) s else refuse .locked s

/-- A chain next for group Gg: END, or another group (R80). -/
def chainNextFor (g : Fin 8) (v : Latch) : Option (Option (Fin 8)) :=
  (groupNumberOf v).filter fun n => decide (n ≠ some g)

/-- A write of a field of table GROUP at the Count Engine (R79, R80). -/
def writeGroup (g : Fin 8) (f : GroupField) (v : Latch) (s : State) : State × ResultCode :=
  match f with
  | .policy => groupConfigWrite g (policyOf v) (fun p x => { x with policy := p }) s
  | .holdAfter => groupConfigWrite g (yesNoOf v) (fun b x => { x with holdAfter := b }) s
  | .reloadAfter => groupConfigWrite g (yesNoOf v) (fun b x => { x with reloadAfter := b }) s
  | .period => groupConfigWrite g (bitsOf 16 v) (fun p x => { x with period := p }) s
  | .chainNext => groupConfigWrite g (chainNextFor g v) (fun n x => { x with chainNext := n }) s
  | _ => refuse .readonly s

/-- GROUP_FIELD_WRITE (R79, R168). -/
def execGroupFieldWrite (c : CyclePhase) (w : Word) (s : State) : Answered :=
  tableWrite c w (fun | some (.group g f) => some (writeGroup g f) | _ => none) s

end Sys2Proof.Machine
end

