-- ==== Sys2Proof/Machine/Lines.lean ====
section
/-! DEFINITION. The Line Inputs: recognised changes of level and the writes of line records (R11 to R14). -/

namespace Sys2Proof.Machine

/-- The edge field selects a change to this level (R13). -/
def Edge.selects (e : Edge) (toHigh : Bool) : Bool :=
  match e with
  | .rising => toHigh
  | .falling => !toHigh
  | .both => true

/-- A recognised change of level on line n: the level field follows, and an enabled line whose edge field selects the change
sends one LINE(n) event (R13). -/
def changeLine (n : Fin 16) (s : State) : State :=
  let l := s.line n
  let t := s.modifyLine n fun x => { x with level := !x.level }
  if l.enabled && l.edge.selects (!l.level) then t.sendLine n else t

/-- LINE_CHANGE (R13). -/
def execLineChange (n : Fin 16) (s : State) : Answered := event s (changeLine n)

/-- A write of a field of line n at the Line Inputs (R11, R14). -/
def writeLine (n : Fin 16) (f : LineField) (v : Latch) (s : State) : State × ResultCode :=
  match f with
  | .enabled =>
    match yesNoOf v with
    | none => refuse .range s
    | some b => accept (s.modifyLine n fun l => { l with enabled := b })
  | .edge =>
    match edgeOf v with
    | none => refuse .range s
    | some e => accept (s.modifyLine n fun l => { l with edge := e })
  | .level => refuse .readonly s

/-- LINE_FIELD_WRITE (R14, R168). -/
def execLineFieldWrite (c : CyclePhase) (w : Word) (s : State) : Answered :=
  tableWrite c w (fun | some (.line n f) => some (writeLine n f) | _ => none) s

/-- The levels present on the lines become their first recognised levels, without an edge (R11, R174, R175). -/
def State.firstLevels (s : State) (levels : Word) : State :=
  { s with lines := Vector.ofFn fun n => { s.lines[n] with level := levels.getLsbD n.val } }

end Sys2Proof.Machine
end

