-- ==== Sys2Proof/Machine/SnapshotQueue.lean ====
section
/-! DEFINITION. The Snapshot Queue: placement, the wait list and its grant step, refusal and withdrawal, release and flush,
and the watermark (chapter 7). -/

namespace Sys2Proof.Machine

/-- A draft with n value entries fits the store (R123). -/
def Queue.fits (q : Queue) (n : Nat) : Bool :=
  decide (q.records.length + 1 ≤ Config.maxRecords) && decide (q.valueUse + n ≤ Config.maxValues)

/-- The record that a draft becomes (R124). -/
def Draft.record (d : Draft) (sequence : BitVec 16) (placementEpoch : Option Epoch) : Record where
  group := d.group
  cause := d.cause
  chainTag := d.chainTag
  captureEpoch := d.captureEpoch
  entries := d.entries
  sequence := sequence
  placementEpoch := placementEpoch

/-- The store after a placement: the record at its tail, the next number consumed, and the group's placed count up
(R125, R126, R144). -/
def Queue.place (q : Queue) (d : Draft) (placementEpoch : Option Epoch) : Queue :=
  { q with
    records := q.records ++ [d.record q.sequence placementEpoch]
    valueUse := q.valueUse + d.entries.length
    sequence := q.sequence + 1
    placed := q.placed.set d.group (q.placed[d.group] + 1) }

/-- LEVEL for a placement that leaves the record count at or above the watermark (R142). -/
def levelEvent (s : State) : State :=
  if s.queue.watermark.toNat ≤ s.queue.records.length then s.queueNotice (.status .level) else s

/-- OVFREC for a record whose cause is OVERFLOW (R143). -/
def overflowRecordEvent (cause : Cause) (s : State) : State :=
  match cause with
  | .overflow _ => s.queueNotice (.status .ovfrec)
  | _ => s

/-- A placement, with its answer and its status events, LEVEL before OVFREC (R128, R133, R143). -/
def placeDraft (d : Draft) (placementEpoch : Option Epoch) (answer : AnswerKind) (s : State) : State :=
  overflowRecordEvent d.cause
    (levelEvent (State.sendAnswer { s with queue := s.queue.place d placementEpoch } answer d.group))

/-- The wait list replaced. -/
def State.withWaitList (s : State) (ds : List Draft) : State := { s with queue := { s.queue with waitList := ds } }

/-- A draft joins the wait list (R129). -/
def joinWaitList (d : Draft) (s : State) : State :=
  ((s.withWaitList (s.queue.waitList ++ [d])).sendAnswer .waiting d.group).queueNotice (.status .wait)

/-- A draft is refused (R130). -/
def dropDraft (d : Draft) (s : State) : State :=
  (State.sendAnswer
    { s with queue := { s.queue with
        sequence := s.queue.sequence + 1
        dropped := s.queue.dropped.set d.group (satInc s.queue.dropped[d.group]) } }
    .refused d.group).queueNotice (.error .dropped (some d.group))

/-- A draft judged: the wait list and the room decide, and the policy where it cannot be placed at once (R127). -/
def takeDraft (d : Draft) (s : State) : State :=
  if s.queue.waitList.isEmpty && s.queue.fits d.entries.length then placeDraft d none .taken s
  else
    match d.policy with
    | .wait => joinWaitList d s
    | .drop => dropDraft d s

/-- DRAFT (R127): the draft at the front of the draft path arrives. With none there, none arrives (log entry 2). -/
def execDraft (s : State) : Answered :=
  match s.paths.draftPath with
  | .draft d :: rest => event s fun t => takeDraft d { t with paths := { t.paths with draftPath := rest } }
  | _ => .next s

/-- The grant step over the drafts of the wait list, from its head (R132, R133): placed one after another, each with all its
effects, until one does not fit; that one and those behind it stay. -/
def grant : List Draft → State → State
  | [], s => s.withWaitList []
  | d :: rest, s =>
    if s.queue.fits d.entries.length then grant rest (placeDraft d (some s.timebase.epoch) .placed s)
    else s.withWaitList (d :: rest)

/-- The grant step (R132). -/
def grantStep (s : State) : State := grant s.queue.waitList s

/-- A waiting draft of group Gg is abandoned (R134). -/
def abandonDraft (g : Fin 8) (s : State) : State :=
  State.sendAnswer
    { s with queue := { s.queue with
        waitList := s.queue.waitList.eraseP fun d => decide (d.group = g)
        sequence := s.queue.sequence + 1
        abandoned := s.queue.abandoned.set g (satInc s.queue.abandoned[g]) } }
    .abandoned g

/-- A WITHDRAW(g) at the queue (R134). -/
def takeWithdraw (g : Fin 8) (s : State) : State :=
  if s.queue.waitList.any fun d => decide (d.group = g) then grantStep (abandonDraft g s) else s

/-- WITHDRAW (R101, R134): the WITHDRAW at the front of the draft path arrives. -/
def execWithdraw (s : State) : Answered :=
  match s.paths.draftPath with
  | .withdraw g :: rest => event s fun t => takeWithdraw g { t with paths := { t.paths with draftPath := rest } }
  | _ => .next s

/-- QUEUE RELEASE at the queue (R139). -/
def queueRelease (s : State) : State × ResultCode :=
  match s.queue.records with
  | [] => refuse .empty s
  | r :: rest =>
    accept (grantStep { s with queue := { s.queue with
      records := rest, valueUse := s.queue.valueUse - r.entries.length } })

/-- QUEUE_RELEASE (R139). -/
def execQueueRelease (c : CyclePhase) (op : BitVec 8) (s : State) : Answered := command c 0x10 op queueRelease s

/-- QUEUE FLUSH at the queue (R140). -/
def queueFlush (s : State) : State × ResultCode :=
  accept (grantStep { s with queue := { s.queue with records := [], valueUse := 0 } })

/-- QUEUE_FLUSH (R140). -/
def execQueueFlush (c : CyclePhase) (op : BitVec 8) (s : State) : Answered := command c 0x11 op queueFlush s

/-- A write of WATERMARK at the queue, judged on the whole word (R141, R162). -/
def writeWatermark (w : Word) (s : State) : State × ResultCode :=
  if 1 ≤ w.toNat ∧ w.toNat ≤ 64 then accept { s with queue := { s.queue with watermark := w } } else refuse .range s

/-- WATERMARK_WRITE (R141). -/
def execWatermarkWrite (c : CyclePhase) (w : Word) (s : State) : Answered :=
  hostAccess c (.write 0x0C w) (fun _ => true) (fun t => latchResult (writeWatermark w t)) s

end Sys2Proof.Machine
end

