-- ==== Sys2Proof/Machine/HostPort.lean ====
section
/-! DEFINITION. The Host Port: reads of the window, the accesses it answers itself, and the ends and
holds of bus cycles (chapter 9). -/

namespace Sys2Proof.Machine

/-- A fetch latched: all three latches take the 48 bits, ABSENT says whether the field was absent, and RESULT takes the code
(R165, R166). -/
def HostPort.latchFetch (h : HostPort) (x : Fetched) : HostPort :=
  { h with
    latchHigh := x.value.extractLsb' 32 16
    latchMid := x.value.extractLsb' 16 16
    latchLow := x.value.extractLsb' 0 16
    absent := x.absent
    result := x.code }

/-- A read of TDATA0: a fresh fetch of the selected field (R166). -/
def fetchSelected (s : State) : State := { s with host := s.host.latchFetch (fetch s s.selected) }

/-- What a read of the window changes behind the bus: a read of TDATA0 fetches, and no other read changes anything (R160,
R166, R167). -/
def readWindow (offset : BitVec 6) (s : State) : State := if offset = 0x08 then fetchSelected s else s

/-- TABLE_FETCH (R160, R166): a read of the window, of TDATA0 a fetch. The word read is driven when the read is answered
(log entry 9). -/
def execTableFetch (c : CyclePhase) (offset : BitVec 6) (s : State) : Answered :=
  hostAccess c (.read offset) (fun _ => true) (readWindow offset) s

/-- READ_ONLY_TABLE_WRITE (R172): a commit to table ERROR, HEAD or HEADVALUE. -/
def execReadOnlyTableWrite (c : CyclePhase) (w : Word) (s : State) : Answered :=
  tableWrite c w
    (fun | some (.error _ _) => some fun _ => refuse .readonly
         | some (.head _) => some fun _ => refuse .readonly
         | some (.headValue _ _) => some fun _ => refuse .readonly
         | _ => none) s

/-- The read-only fields of table AGENT (R25). -/
def isReadOnlyAgentField : AgentField → Bool
  | .enabled => false
  | .silenceLimit => false
  | _ => true

/-- READONLY_FIELD_WRITE (R8, R25): a commit to a read-only field of table AGENT or to field state of table TIMEBASE. -/
def execReadonlyFieldWrite (c : CyclePhase) (w : Word) (s : State) : Answered :=
  tableWrite c w
    (fun | some (.agent _ f) => if isReadOnlyAgentField f then some fun _ => refuse .readonly else none
         | some (.timebase .state) => some fun _ => refuse .readonly
         | _ => none) s

/-- TABLE_COMMIT_RANGE (R168, R169): a commit while TSEL and TFIELD name no field. The Host Port answers RANGE itself. -/
def execTableCommitRange (c : CyclePhase) (w : Word) (s : State) : Answered :=
  tableWrite c w (fun | none => some fun _ => refuse .range
                      | some _ => none) s

/-- UNKNOWN_COMMAND (R163). -/
def execUnknownCommand (c : CyclePhase) (w : Word) (s : State) : Answered :=
  hostAccess c (.write 0x04 w) (fun _ => unknownWord w) (fun t => t.withResult .unknown) s

/-- GROUP_OPERAND_RANGE (R66, R163). -/
def execGroupOperandRange (c : CyclePhase) (w : Word) (s : State) : Answered :=
  hostAccess c (.write 0x04 w) (fun _ => groupRangeWord w) (fun t => t.withResult .range) s

/-- A write of a plain register: TSEL takes the word, TFIELD its low byte, TDATA1 and TDATA2 their latch; every other write
is ignored (R160, R165, R167). -/
def HostPort.writeRegister (h : HostPort) (offset : BitVec 6) (w : Word) : HostPort :=
  match offset.toNat with
  | 0x06 => { h with tsel := w }
  | 0x07 => { h with tfield := w.setWidth 8 }
  | 0x09 => { h with latchMid := w }
  | 0x0A => { h with latchHigh := w }
  | _ => h

/-- REGISTER_WRITE (R165, R167): RESULT is left as it is. -/
def execRegisterWrite (c : CyclePhase) (offset : BitVec 6) (w : Word) (s : State) : Answered :=
  hostAccess c (.write offset w) (fun _ => plainOffset offset)
    (fun t => { t with host := t.host.writeRegister offset w }) s

/-! ## Bus cycles -/

/-- What an output pin with three states shows. -/
inductive PinLevel where
  | high | low | released
  deriving DecidableEq, Repr

/-- RDYn: low in DONE and in a cycle of both strobes, else high while CSn is low (R158, R159, section 9.2). While the part is
held in reset it is released (R175). -/
def State.rdyn (s : State) : PinLevel :=
  if s.mode = .resetting then .released
  else if s.bus.bothLow ∨ s.bus.cycle = .done then .low
  else if s.bus.csLow then .high else .released

/-- A cycle with CSn low and both strobes low: no access, no data, RESULT as it is, RDYn low (R159). While an earlier strobe
is still low the strobes of such a cycle cannot come. -/
def Bus.bothStrobes (b : Bus) : Bus :=
  match b.cycle with
  | .pending => if b.strobeHigh then { b with bothLow := true, csLow := true } else b
  | _ => { b with cycle := .done, bothLow := true, csLow := true, data := none }

/-- BOTH_STROBES_LOW (R159). -/
def execBothStrobesLow (s : State) : Answered := event s fun t => { t with bus := t.bus.bothStrobes }

/-- CSn has moved with no strobe low, so that RDYn follows it: high while CSn is low, high-impedance once it is high (R158,
section 9.2). While a strobe is low, CSn going high ends a cycle or cuts it short, and is not this. -/
def Bus.followCs (b : Bus) (csHigh : Bool) : Bus := if b.strobeHigh then { b with csLow := !csHigh } else b

/-- The strobe, or CSn, has gone high after DONE, or both strobes after a cycle of no access: the data lines are released
and DONE goes back to FREE (R158, R159). Where no cycle ends, CSn alone has moved (log entry 12). -/
def Bus.endCycle (b : Bus) (csHigh : Bool) : Bus :=
  if b.cycle = .done then { b with cycle := .free, bothLow := false, csLow := !csHigh, data := none }
  else if b.bothLow then { b with bothLow := false, csLow := !csHigh }
  else b.followCs csHigh

/-- BUS_CYCLE_END (R158): the end of a cycle, or a move of CSn after one or before one. In reset CSn is ignored (R175). -/
def execBusCycleEnd (csHigh : Bool) (s : State) : Answered :=
  match s.mode with
  | .resetting => .next s
  | .running => .next (s.withBus (s.bus.endCycle csHigh))
  | .recovering => .next (s.withBus (s.bus.endCycle csHigh))

/-- The oldest held cycle is passed to its owner, once no earlier access is unanswered (R159). -/
def Bus.passOn (b : Bus) : Bus :=
  match b.unanswered, b.held with
  | none, x :: rest => { b with unanswered := some x, held := rest }
  | _, _ => b

/-- HELD_CYCLE_PASSED_ON (R159). The owner takes the access in a later step, phase `taken` of its own row. -/
def execHeldCyclePassedOn (s : State) : Answered := event s fun t => { t with bus := t.bus.passOn }

end Sys2Proof.Machine
end

