-- ==== Sys2Proof/Machine/Reset.lean ====
section
/-! DEFINITION. The resets of the part: the DEVICE RESET command, the RESETn pin, power-up, and the end of recovery
(R1, R38, R39, R83, R121, R122, R146, R173 to R175). -/

namespace Sys2Proof.Machine

/-- Every block at its reset values and every message in flight discarded. The levels of the lines follow their inputs, the
bus cycle is the caller's to settle, and the model's own counter and queue are no part of the chip. -/
def resetBlocks (s : State) : State :=
  { s with
    timebase := Timebase.reset
    lines := Vector.ofFn fun n => { Line.reset with level := s.lines[n].level }
    receiver := Receiver.reset
    agents := Vector.replicate 8 Agent.reset
    counters := Vector.replicate 32 Counter.reset
    groups := Vector.replicate 8 Group.reset
    chainTag := 0
    queue := Queue.reset
    events := EventController.reset
    host := HostPort.reset
    paths := Paths.empty }

/-- DEVICE RESET at the Host Port (R174): every block is reset, the levels then present become the first recognised levels,
and the quiet measurement starts from 0. RESULT is 0. -/
def deviceReset (levels : Word) (s : State) : State := (resetBlocks s).firstLevels levels

/-- DEVICE_RESET (R174). `levels` are those on the lines when the command reset ends. -/
def execDeviceReset (c : CyclePhase) (op : BitVec 8) (levels : Word) (s : State) : Answered :=
  hostAccess c (.write 0x04 (cmdWord 0x4F op)) (fun _ => true) (deviceReset levels) s

/-- The part held in reset: every block at its reset values, and any bus cycle abandoned (R175). -/
def holdInReset (s : State) : State := { resetBlocks s with bus := Bus.reset, mode := .resetting }

/-- RESETN_ASSERTED (R175). -/
def execResetnAsserted (s : State) : Answered := .next (holdInReset s)

/-- POWER_UP (R175): taken as a device reset, held until the supply and the clock are ready. -/
def execPowerUp (s : State) : Answered := .next (holdInReset s)

/-- Recovery begins: RESETn has returned high, and the strobes are seen again, so that a bus cycle begun now is held (R175). -/
def beginRecovery (s : State) : State := { s with mode := .recovering }

/-- Recovery ends: the part runs, the levels present become the first recognised levels, and the oldest cycle begun in
recovery is passed on (R11, R175). -/
def endRecovery (levels : Word) (s : State) : State :=
  State.firstLevels { s with mode := .running, bus := s.bus.passOn } levels

/-- RESET_RECOVERY_END (R175). Recovery begins from reset alone and ends from recovery alone (log entries 2 and 14). -/
def execResetRecoveryEnd (c : RecoveryPhase) (s : State) : Answered :=
  match c, s.mode with
  | .begun, .resetting => .next (beginRecovery s)
  | .ended levels, .recovering => .next (endRecovery levels s)
  | _, _ => .next s

end Sys2Proof.Machine
end

