-- ==== Sys2Proof/Machine/Sources.lean ====
section
/-! DEFINITION. Events at the Count Engine that reach every counter: source events, ticks with the periodic countdowns, and
AGENT_DOWN notices (R47, R49, R58 to R61, R75). -/

namespace Sys2Proof.Machine

/-- The overflow set of group Gg: its members that wrapped in the event with overflow capture yes (R59). -/
def State.overflowSet (s : State) (wrapped : List (Fin 32)) (g : Fin 8) : List (Fin 32) :=
  wrapped.filter fun k => (s.counter k).isMember g && (s.counter k).overflowCapture

/-- The second step of a source event at one group (R59). -/
def overflowCauseAt (wrapped : List (Fin 32)) (s : State) (g : Fin 8) : State :=
  let set := s.overflowSet wrapped g
  if decide ((s.group g).state = .running) && !set.isEmpty then captureCause g (.overflow (maskOf set)) s else s

/-- One source event at the Count Engine, in three steps: it is applied to every counter that selects it, overflow causes
reach the groups in ascending order, and OVERFLOW events are sent (R58). -/
def applySource (src : Source) (a : Amount) (s : State) : State :=
  let wrapped := s.wrappedBy src a
  let counted := noteLosses (s.losses src a) (countEvent src a s)
  let captured := groupIds.foldl (overflowCauseAt wrapped) counted
  captured.sendOverflows wrapped

/-- The front message of a path from the Line Inputs or the Tally Receiver, as a source event: its source, its amount, and
the state without it. An AGENT_DOWN notice is no source event. -/
def frontSource (path : SourcePath) (s : State) : Option (Source × Amount × State) :=
  match path with
  | .lines =>
    match s.paths.lineEvents with
    | [] => none
    | n :: rest => some (.line n, 1, { s with paths := { s.paths with lineEvents := rest } })
  | .link =>
    match s.paths.linkToEngine with
    | .channel a c amount :: rest => some (.channel a c, amount, { s with paths := { s.paths with linkToEngine := rest } })
    | _ => none

/-- SOURCE_EVENT (R58): the LINE or CHANNEL event at the front of its path arrives. With none there, none arrives
(log entry 2). -/
def execSourceEvent (path : SourcePath) (s : State) : Answered :=
  match frontSource path s with
  | none => .next s
  | some (src, a, t) => event s fun _ => applySource src a t

/-- A group's countdown at a tick: it runs in RUNNING with a period other than 0, and at 0 is reloaded and gives a PERIODIC
cause (R75). -/
def countdownAt (s : State) (g : Fin 8) : State :=
  let x := s.group g
  if decide (x.state = .running) && decide (x.period ≠ 0) then
    if x.countdown - 1 = 0 then captureCause g .periodic (s.modifyGroup g fun y => { y with countdown := y.period })
    else s.modifyGroup g fun y => { y with countdown := y.countdown - 1 }
  else s

/-- The tick at the front of the path to the Count Engine taken off it. -/
def popEngineTick (s : State) : State :=
  { s with paths := { s.paths with ticksToEngine := s.paths.ticksToEngine - 1 } }

/-- A tick taken at the Count Engine: first the TICK source event, then the countdowns in ascending order (R60, R75). DESIGN
CHOICE (log entry 19): where the first part takes an OVERFLOW capture at one group and the second a PERIODIC capture at a lower
one, the captures are taken, and draw their chain tags, in the order of the two parts. R111 says both that tags are drawn in the
order of the captures and that the lowest-numbered origin receives the lowest tag. -/
def takeEngineTick (s : State) : State := groupIds.foldl countdownAt (applySource .tick 1 s)

/-- ENGINE_TICK (R60). With no tick in flight to the Count Engine none arrives (log entry 2). -/
def execEngineTick (s : State) : Answered :=
  if s.paths.ticksToEngine = 0 then .next s else event s fun t => takeEngineTick (popEngineTick t)

/-- The group's countdown reaches 0 in the second part of the next tick (R75). -/
def periodicDue (g : Fin 8) (s : State) : Bool :=
  let x := (applySource .tick 1 s).group g
  decide (x.state = .running) && decide (x.period ≠ 0) && decide (x.countdown - 1 = 0)

/-- PERIODIC_CAUSE (R75): the tick in whose event group Gg's countdown reaches 0, taken as the one event that R60 and R75
make it (log entry 5). Where the next tick brings the countdown to no 0, or none is in flight, no cause reaches the group. -/
def execPeriodicCause (g : Fin 8) (s : State) : Answered :=
  if s.paths.ticksToEngine ≠ 0 ∧ periodicDue g (popEngineTick s) = true then
    event s fun t => takeEngineTick (popEngineTick t)
  else .next s

/-- OVERFLOW_EVENT (R46, R47): the event at the front of the overflow path arrives. -/
def execOverflowEvent (s : State) : Answered :=
  match s.paths.overflows with
  | [] => .next s
  | k :: rest => event s fun t => applySource (.overflow k) 1 { t with paths := { t.paths with overflows := rest } }

/-- PLACED_EVENT (R61, R107): the event at the front of the placement path arrives. -/
def execPlacedEvent (s : State) : Answered :=
  match s.paths.placements with
  | [] => .next s
  | g :: rest => event s fun t => applySource (.placed g) 1 { t with paths := { t.paths with placements := rest } }

/-- The counter's source is a channel of agent Aa (R49). -/
def Counter.fedBy (c : Counter) (a : Fin 8) : Bool :=
  match c.source with
  | .channel x _ => decide (x = a)
  | _ => false

/-- An AGENT_DOWN notice marks every counter fed by the agent stale (R49). -/
def markStale (a : Fin 8) (s : State) : State :=
  s.mapCounters fun _ c => if c.fedBy a then { c with stale := true } else c

/-- AGENT_DOWN (R49): the notice at the front of the path from the Tally Receiver arrives. -/
def execAgentDown (s : State) : Answered :=
  match s.paths.linkToEngine with
  | .agentDown a :: rest => event s fun t => markStale a { t with paths := { t.paths with linkToEngine := rest } }
  | _ => .next s

end Sys2Proof.Machine
end

