-- ==== Sys2Proof/Machine/Timebase.lean ====
section
/-! DEFINITION. The Timebase: intervals, ticks, the two commands, and the writes of period code and epoch (R1 to R8). -/

namespace Sys2Proof.Machine

/-- The length of an interval that begins under a period code, in reference clock periods (R2). -/
def intervalLength (code : BitVec 4) : Nat :=
  match code.toNat with
  | 0 => 40
  | 1 => 80
  | 2 => 200
  | 3 => 400
  | 4 => 800
  | 5 => 2000
  | 6 => 4000
  | 7 => 8000
  | 8 => 20000
  | 9 => 40000
  | 10 => 80000
  | 11 => 200000
  | 12 => 400000
  | 13 => 800000
  | 14 => 2000000
  | _ => 4000000

/-- The length of the interval in progress, in reference clock periods, if there is one (R3). -/
def Timebase.intervalInProgress (t : Timebase) : Option Nat :=
  match t.state with
  | .stopped => none
  | .running code => some (intervalLength code)

/-- The interval in progress expires: the epoch advances and wraps, a new interval begins under the code as it stands, and
one tick goes to each of the two blocks (R3, R10). -/
def expireInterval (s : State) : State :=
  State.sendTicks { s with timebase :=
    { s.timebase with epoch := s.timebase.epoch + 1, state := .running s.timebase.periodCode } }

/-- INTERVAL_EXPIRY (R3). A STOPPED Timebase has no interval, and no expiry comes (log entry 2). -/
def execIntervalExpiry (s : State) : Answered :=
  match s.timebase.state with
  | .stopped => .next s
  | .running _ => event s expireInterval

/-- TIMEBASE START at the Timebase (R4). -/
def timebaseStart (s : State) : State × ResultCode :=
  match s.timebase.state with
  | .stopped => accept { s with timebase := { s.timebase with state := .running s.timebase.periodCode } }
  | .running _ => refuse .state s

/-- TIMEBASE_START (R4). -/
def execTimebaseStart (c : CyclePhase) (op : BitVec 8) (s : State) : Answered := command c 0x20 op timebaseStart s

/-- TIMEBASE STOP at the Timebase (R5). -/
def timebaseStop (s : State) : State × ResultCode :=
  match s.timebase.state with
  | .stopped => refuse .state s
  | .running _ => accept { s with timebase := { s.timebase with state := .stopped } }

/-- TIMEBASE_STOP (R5). -/
def execTimebaseStop (c : CyclePhase) (op : BitVec 8) (s : State) : Answered := command c 0x21 op timebaseStop s

/-- A write of the period code at the Timebase (R6). -/
def writePeriodCode (v : Latch) (s : State) : State × ResultCode :=
  match bitsOf 4 v with
  | none => refuse .range s
  | some code => accept { s with timebase := { s.timebase with periodCode := code } }

/-- PERIOD_CODE_WRITE (R6, R168). -/
def execPeriodCodeWrite (c : CyclePhase) (w : Word) (s : State) : Answered :=
  tableWrite c w (fun | some (.timebase .periodCode) => some writePeriodCode | _ => none) s

/-- A write of the epoch at the Timebase (R7). -/
def writeEpoch (v : Latch) (s : State) : State × ResultCode :=
  match s.timebase.state with
  | .stopped => accept { s with timebase := { s.timebase with epoch := v } }
  | .running _ => refuse .locked s

/-- EPOCH_WRITE (R7, R168). -/
def execEpochWrite (c : CyclePhase) (w : Word) (s : State) : Answered :=
  tableWrite c w (fun | some (.timebase .epoch) => some writeEpoch | _ => none) s

end Sys2Proof.Machine
end

