-- ==== Sys2Proof/Machine/Dispatch.lean ====
section
/-! DEFINITION. One arm per command: the meaning that `exec` runs. -/

namespace Sys2Proof.Machine

def exec (i : Instr) (s : State) : Host.Outcome State Fault Refusal :=
  match i with
  | .intervalExpiry => Sys2Proof.Machine.execIntervalExpiry s
  | .timebaseStart c op => Sys2Proof.Machine.execTimebaseStart c op s
  | .timebaseStop c op => Sys2Proof.Machine.execTimebaseStop c op s
  | .periodCodeWrite c w => Sys2Proof.Machine.execPeriodCodeWrite c w s
  | .epochWrite c w => Sys2Proof.Machine.execEpochWrite c w s
  | .lineChange n => Sys2Proof.Machine.execLineChange n s
  | .lineFieldWrite c w => Sys2Proof.Machine.execLineFieldWrite c w s
  | .frameComplete bit => Sys2Proof.Machine.execFrameComplete bit s
  | .quietTimeExpiry => Sys2Proof.Machine.execQuietTimeExpiry s
  | .receiverTick => Sys2Proof.Machine.execReceiverTick s
  | .agentLost a => Sys2Proof.Machine.execAgentLost a s
  | .receiverEnabledWrite c w => Sys2Proof.Machine.execReceiverEnabledWrite c w s
  | .agentEnabledWrite c w => Sys2Proof.Machine.execAgentEnabledWrite c w s
  | .silenceLimitWrite c w => Sys2Proof.Machine.execSilenceLimitWrite c w s
  | .linkRestart c op => Sys2Proof.Machine.execLinkRestart c op s
  | .linkClearCounts c op => Sys2Proof.Machine.execLinkClearCounts c op s
  | .sourceEvent path => Sys2Proof.Machine.execSourceEvent path s
  | .engineTick => Sys2Proof.Machine.execEngineTick s
  | .periodicCause g => Sys2Proof.Machine.execPeriodicCause g s
  | .overflowEvent => Sys2Proof.Machine.execOverflowEvent s
  | .placedEvent => Sys2Proof.Machine.execPlacedEvent s
  | .agentDown => Sys2Proof.Machine.execAgentDown s
  | .groupStart c g => Sys2Proof.Machine.execGroupStart c g s
  | .groupHold c g => Sys2Proof.Machine.execGroupHold c g s
  | .groupResume c g => Sys2Proof.Machine.execGroupResume c g s
  | .groupStop c g => Sys2Proof.Machine.execGroupStop c g s
  | .groupCapture c g => Sys2Proof.Machine.execGroupCapture c g s
  | .groupClear c g => Sys2Proof.Machine.execGroupClear c g s
  | .groupReload c g => Sys2Proof.Machine.execGroupReload c g s
  | .countingReset c op => Sys2Proof.Machine.execCountingReset c op s
  | .chainRequest => Sys2Proof.Machine.execChainRequest s
  | .answerTaken => Sys2Proof.Machine.execTaken s
  | .answerWaiting => Sys2Proof.Machine.execWaiting s
  | .answerRefused => Sys2Proof.Machine.execRefused s
  | .answerPlaced => Sys2Proof.Machine.execPlaced s
  | .answerAbandoned => Sys2Proof.Machine.execAbandoned s
  | .counterFieldWrite c w => Sys2Proof.Machine.execCounterFieldWrite c w s
  | .counterGroupWrite c w => Sys2Proof.Machine.execCounterGroupWrite c w s
  | .valuePresetWrite c w => Sys2Proof.Machine.execValuePresetWrite c w s
  | .groupFieldWrite c w => Sys2Proof.Machine.execGroupFieldWrite c w s
  | .draft => Sys2Proof.Machine.execDraft s
  | .withdraw => Sys2Proof.Machine.execWithdraw s
  | .queueRelease c op => Sys2Proof.Machine.execQueueRelease c op s
  | .queueFlush c op => Sys2Proof.Machine.execQueueFlush c op s
  | .watermarkWrite c w => Sys2Proof.Machine.execWatermarkWrite c w s
  | .errorReport r => Sys2Proof.Machine.execErrorReport r s
  | .statusEvent r => Sys2Proof.Machine.execStatusEvent r s
  | .irqstatWrite c w => Sys2Proof.Machine.execIrqstatWrite c w s
  | .irqenWrite c w => Sys2Proof.Machine.execIrqenWrite c w s
  | .tableFetch c offset => Sys2Proof.Machine.execTableFetch c offset s
  | .readOnlyTableWrite c w => Sys2Proof.Machine.execReadOnlyTableWrite c w s
  | .unknownCommand c w => Sys2Proof.Machine.execUnknownCommand c w s
  | .registerWrite c offset w => Sys2Proof.Machine.execRegisterWrite c offset w s
  | .bothStrobesLow => Sys2Proof.Machine.execBothStrobesLow s
  | .busCycleEnd csHigh => Sys2Proof.Machine.execBusCycleEnd csHigh s
  | .heldCyclePassedOn => Sys2Proof.Machine.execHeldCyclePassedOn s
  | .deviceReset c op levels => Sys2Proof.Machine.execDeviceReset c op levels s
  | .resetnAsserted => Sys2Proof.Machine.execResetnAsserted s
  | .resetRecoveryEnd c => Sys2Proof.Machine.execResetRecoveryEnd c s
  | .powerUp => Sys2Proof.Machine.execPowerUp s
  | .tclkRisingEdge bit => Sys2Proof.Machine.execTclkRisingEdge bit s
  | .tableCommitRange c w => Sys2Proof.Machine.execTableCommitRange c w s
  | .groupOperandRange c w => Sys2Proof.Machine.execGroupOperandRange c w s
  | .readonlyFieldWrite c w => Sys2Proof.Machine.execReadonlyFieldWrite c w s

end Sys2Proof.Machine
end

