-- ==== Sys2Proof/Safety.lean ====
section
/-! DEFINITION. What counts as a sound state of the part, in the terms that claims use: the conditions that the manual says
hold at every moment. Each is decidable, and each is kept by every step. -/

namespace Sys2Proof.Machine

/-! ## What claims say of an access and of its answer -/

/-- The owner takes the access in this phase of its cycle: a whole cycle, or an access passed on before (R158, R159). -/
def State.takes (s : State) (c : CyclePhase) (acc : Access) : Bool :=
  match c with
  | .whole => s.busReady
  | .taken => s.passedOn acc
  | .begun => false
  | .cutShort _ => false

/-- The bus once the answer is latched. A whole cycle is in DONE with RDYn low, and drives its word; an access passed on
before is answered as R158 and R159 say. -/
def State.busAfter (s : State) (c : CyclePhase) (word : Option Word) : Bus :=
  match c with
  | .whole => { s.bus with cycle := .done, unanswered := none, csLow := true, bothLow := false, data := word }
  | _ => s.bus.answer word

/-- The state with the answer of a write that leaves RESULT as it is. -/
def State.written (s : State) (c : CyclePhase) : State := { s with bus := s.busAfter c none }

/-- The state with the answer of a command: its code in RESULT (R163). -/
def State.answered (s : State) (c : CyclePhase) (r : ResultCode) : State :=
  { s with host := { s.host with result := r }, bus := s.busAfter c none }

/-- The state with the answer of a commit: the low latch holds the word written, ABSENT is 0, and the code is in RESULT
(R165, R168). -/
def State.committed (s : State) (c : CyclePhase) (w : Word) (r : ResultCode) : State :=
  { s with host := { s.host with latchLow := w, absent := false, result := r }, bus := s.busAfter c none }

/-- The row that an access is while TSEL and TFIELD hold what they hold now (R160, R163, R168; log entry 9). -/
def State.rowOf (s : State) (levels : Word) (c : CyclePhase) : Access → Instr
  | .read offset => .tableFetch c offset
  | .write offset w => writeRow c levels s.host.tsel s.host.tfield offset w

/-- The group receives an overflow cause in an event that wraps these counters, and can take it (R59, R87). -/
def State.takesOverflow (s : State) (wrapped : List (Fin 32)) (g : Fin 8) : Bool :=
  decide ((s.group g).state = .running) && !(s.overflowSet wrapped g).isEmpty && !(s.group g).outstanding

/-- The group receives an overflow cause in an event that wraps these counters, and misses it (R59, R87). -/
def State.missesOverflow (s : State) (wrapped : List (Fin 32)) (g : Fin 8) : Bool :=
  decide ((s.group g).state = .running) && !(s.overflowSet wrapped g).isEmpty && (s.group g).outstanding

/-- The group's countdown runs at a tick (R75). -/
def Group.countsDown (x : Group) : Bool := decide (x.state = .running) && decide (x.period ≠ 0)

/-- The countdown reaches 0 at a tick, and the group can take the cause (R75, R87). -/
def Group.takesPeriodic (x : Group) : Bool := x.countsDown && decide (x.countdown = 1) && !x.outstanding

/-- The countdown reaches 0 at a tick, and the group misses the cause (R75, R87). -/
def Group.missesPeriodic (x : Group) : Bool := x.countsDown && decide (x.countdown = 1) && x.outstanding

/-- The groups of a list of capturing groups whose captures start a chain (R95, R111). -/
def State.chainStarters (s : State) (gs : List (Fin 8)) : List (Fin 8) := gs.filter fun g => (s.group g).chainNext.isSome

/-- The tag that group Gg's chain gets where the groups of a list capture one after another: one higher for each chain started
before it (R111). -/
def State.tagDrawnBy (s : State) (gs : List (Fin 8)) (g : Fin 8) : BitVec 8 :=
  s.chainTag + BitVec.ofNat 8 ((s.chainStarters gs).idxOf g)

/-- The first request of each chain started, in the order of the captures (R112). -/
def State.firstRequests (s : State) (gs : List (Fin 8)) : List ChainRequest :=
  gs.filterMap fun g => (s.group g).chainNext.map fun next => ⟨g, s.tagDrawnBy gs g, [g], 1, next⟩

/-- The draft of group Gg's capture where the groups of a list capture one after another, with this cause and these entries: it
bears the tag drawn where it starts a chain, and else none (R95, R96). -/
def State.draftAmong (s : State) (gs : List (Fin 8)) (g : Fin 8) (cause : Cause) (entries : List Entry) : Draft where
  group := g
  cause := cause
  chainTag := (s.group g).chainNext.map fun _ => s.tagDrawnBy gs g
  captureEpoch := s.timebase.epoch
  policy := (s.group g).policy
  entries := entries

/-- A group record after the fourth and fifth steps of capture taking (R93, section 5.2). -/
def Group.afterCapture (x : Group) : Group :=
  { x with state := if x.state = .running ∧ x.holdAfter = true then .held else x.state, outstanding := true }

/-- The state's agents that a tick makes LOST, ascending (R29). -/
def State.lostAtTick (s : State) : List (Fin 8) := agentIds.filter fun a => (s.agent a).reachesLimit

/-- The drafts at the head of a wait list that a grant step places in this store (R132). -/
def grantable (q : Queue) : List Draft → List Draft
  | [] => []
  | d :: rest => if q.fits d.entries.length then d :: grantable (q.place d none) rest else []

/-! ## The store (R122, R123, R133, R141) -/

/-- The value entries of a list of records. -/
def entriesHeld (rs : List Record) : Nat := (rs.map fun r => r.entries.length).sum

/-- Both bounds of the store, the value use, the watermark, and the store not empty while a draft waits. -/
abbrev Queue.Sound (q : Queue) : Prop :=
  q.records.length ≤ Config.maxRecords ∧ q.valueUse = entriesHeld q.records ∧ q.valueUse ≤ Config.maxValues ∧
    1 ≤ q.watermark.toNat ∧ q.watermark.toNat ≤ 64 ∧ (q.waitList ≠ [] → q.records ≠ [])

/-- The drafts on the draft path, oldest first. -/
def draftsOnPath (ms : List DraftMessage) : List Draft :=
  ms.filterMap fun | .draft d => some d
                   | .withdraw _ => none

/-- No group has more than eight members, and no draft or record more than eight entries (R55, R97, R124). -/
abbrev State.EightAtMost (s : State) : Prop :=
  (∀ g, (s.members g).length ≤ Config.maxMembers) ∧
    (∀ d ∈ draftsOnPath s.paths.draftPath, d.entries.length ≤ Config.maxMembers) ∧
    (∀ d ∈ s.queue.waitList, d.entries.length ≤ Config.maxMembers) ∧
    (∀ r ∈ s.queue.records, r.entries.length ≤ Config.maxMembers)

/-! ## The draft protocol (R65, R74, R100, R105, R106, R108, R131, R145) -/

/-- TAKEN, REFUSED, PLACED and ABANDONED are final answers (R100). -/
def AnswerKind.isFinal : AnswerKind → Bool
  | .waiting => false
  | _ => true

/-- The drafts of group Gg on the draft path. -/
def State.sentDrafts (s : State) (g : Fin 8) : Nat :=
  (draftsOnPath s.paths.draftPath).countP fun d => decide (d.group = g)

/-- The drafts of group Gg on the wait list. -/
def State.waitingDrafts (s : State) (g : Fin 8) : Nat := s.queue.waitList.countP fun d => decide (d.group = g)

/-- The answers for group Gg on their way to the Count Engine, oldest first. -/
def State.answersFor (s : State) (g : Fin 8) : List AnswerKind :=
  (s.paths.answers.filter fun x => decide (x.group = g)).map (·.kind)

/-- The final answers for group Gg on their way. -/
def State.finalAnswers (s : State) (g : Fin 8) : Nat := (s.answersFor g).countP (·.isFinal)

/-- An outstanding group has exactly one draft sent, waiting, or finally answered; another group has none (R100, R131). -/
abbrev State.DraftsAccounted (s : State) : Prop :=
  ∀ g, s.sentDrafts g + s.waitingDrafts g + s.finalAnswers g = if (s.group g).outstanding then 1 else 0

/-- What group Gg has on the draft path: yes for a DRAFT, no for a WITHDRAW. -/
def State.pathOf (s : State) (g : Fin 8) : List Bool :=
  s.paths.draftPath.filterMap fun
    | .draft d => if d.group = g then some true else none
    | .withdraw x => if x = g then some false else none

/-- The group is STALLED. -/
def GroupState.isStalled : GroupState → Bool
  | .stalled _ => true
  | _ => false

/-- The group is RUNNING or HELD. -/
def GroupState.isLive : GroupState → Bool
  | .running => true
  | .held => true
  | _ => false

/-- The answers for one group on their way: one final answer, or WAITING and behind it PLACED or ABANDONED (R100). -/
abbrev State.AnswersInOrder (s : State) (g : Fin 8) : Prop :=
  s.answersFor g ∈ [[], [.taken], [.refused], [.placed], [.abandoned], [.waiting], [.waiting, .placed],
    [.waiting, .abandoned]]

/-- While a WAITING answer is on its way, the draft is outstanding and no longer on the draft path (R103). -/
abbrev State.WaitingAnswerSound (s : State) (g : Fin 8) : Prop :=
  AnswerKind.waiting ∈ s.answersFor g → (s.group g).outstanding = true ∧ s.sentDrafts g = 0

/-- A STALLED group has its draft outstanding, taken by the queue, and no answer but PLACED on its way (R65, R102, R104). -/
abbrev State.StallSound (s : State) (g : Fin 8) : Prop :=
  (s.group g).state.isStalled = true →
    (s.group g).outstanding = true ∧ s.sentDrafts g = 0 ∧ (s.answersFor g = [] ∨ s.answersFor g = [.placed])

/-- ABANDONED finds its group IDLE (R106). -/
abbrev State.AbandonedSound (s : State) (g : Fin 8) : Prop :=
  AnswerKind.abandoned ∈ s.answersFor g → (s.group g).state = .idle

/-- A WITHDRAW of an earlier draft is ahead of the outstanding draft of a group in service (R101, R105). -/
abbrev State.WithdrawSound (s : State) (g : Fin 8) : Prop :=
  (s.group g).state ≠ .idle → (s.group g).outstanding = true →
    false ∉ (s.pathOf g).dropWhile (· == false) ∧ (s.sentDrafts g = 0 → s.pathOf g = [])

/-- A RUNNING or HELD group whose draft waits, or has been placed from the wait list, has its WAITING answer still to take
(R74, R105). -/
abbrev State.LiveSound (s : State) (g : Fin 8) : Prop :=
  (s.group g).state.isLive = true → s.waitingDrafts g ≠ 0 ∨ AnswerKind.placed ∈ s.answersFor g →
    AnswerKind.waiting ∈ s.answersFor g

/-- One group's part of the protocol: the order of its answers, and what its state says of its draft. -/
abbrev State.ProtocolAt (s : State) (g : Fin 8) : Prop :=
  s.AnswersInOrder g ∧ s.WaitingAnswerSound g ∧ s.StallSound g ∧ s.AbandonedSound g ∧ s.WithdrawSound g ∧ s.LiveSound g

/-- The whole protocol: every draft accounted for, and every group's part. -/
abbrev State.ProtocolSound (s : State) : Prop := s.DraftsAccounted ∧ ∀ g, s.ProtocolAt g

/-! ## The other blocks -/

/-- Band low is not above band high, in any counter (R44). -/
abbrev State.BandsSound (s : State) : Prop := ∀ k, (s.counter k).bandLow ≤ (s.counter k).bandHigh

/-- No counter selects its own overflow, and no group is its own chain next (R52, R80). -/
abbrev State.NoSelfReference (s : State) : Prop :=
  (∀ k, (s.counter k).source ≠ .overflow k) ∧ ∀ g, (s.group g).chainNext ≠ some g

/-- A chain request on its way: what R109 says of its fields, and R115 of its hop. -/
abbrev ChainRequest.Sound (r : ChainRequest) : Prop :=
  r.origin ∈ r.visited ∧ r.visited.Nodup ∧ r.hop = r.visited.length ∧ 1 ≤ r.hop ∧ r.hop ≤ 7 ∧ r.target ∉ r.visited

/-- No group is its own chain next, and every chain request on its way is sound (R80, R109, R115). -/
abbrev State.ChainsSound (s : State) : Prop :=
  (∀ g, (s.group g).chainNext ≠ some g) ∧ ∀ r ∈ s.paths.chainRequests, r.Sound

/-- The receiver is OFF exactly when it is not enabled, and an agent that is not enabled is SILENT (section 2.2, R24, R25). -/
abbrev State.LinkSound (s : State) : Prop :=
  (s.receiver.enabled = false ↔ s.receiver.reception = .off) ∧
    ∀ a, (s.agent a).enabled = false → (s.agent a).state = .silent

/-- IRQn is asserted exactly while some flag is set whose enable is set (R157). -/
abbrev State.IrqSound (s : State) : Prop := s.events.irq = s.events.wantsIrq

/-- The cycles not answered yet, oldest first. -/
def Bus.cycles (b : Bus) : List BusCycle := b.unanswered.toList ++ b.held

/-- The bus: a cycle is unanswered or held exactly in PENDING, at most the latest has its strobe low, and the part drives
data in DONE alone (section 9.2, R158, R159). -/
abbrev Bus.Sound (b : Bus) : Prop :=
  (b.cycle = .pending ↔ b.cycles ≠ []) ∧ (∀ x ∈ b.cycles.dropLast, x.cut = true) ∧ (b.data ≠ none → b.cycle = .done)

/-- A running countdown stands between 1 and the period (R67, R75). -/
abbrev State.CountdownsSound (s : State) : Prop :=
  ∀ g, (s.group g).state ≠ .idle → (s.group g).period ≠ 0 →
    1 ≤ (s.group g).countdown.toNat ∧ (s.group g).countdown.toNat ≤ (s.group g).period.toNat

end Sys2Proof.Machine
end

