-- ==== Sys2Proof/Certificates/Slice0/Obligations.lean ====
section
/-! DEFINITION. The statements about this model, for the provers: what a step runs, how the window's words are the commands,
what each command does and leaves alone, and what every step keeps. -/

open Sys2Proof Sys2Proof.Machine

/-! ## The step, the window and the bus -/

/-- A step runs the command at the front of the queue on the state with the rest of the queue. The queue, and idling on an
empty one, are the model's (log entries 4 and 6). -/
def Obligations.StepRunsFrontCommand : Prop :=
  (∀ (c : Instr) (rest : List Instr) (s : State), step { s with pending := c :: rest } = exec c { s with pending := rest }) ∧
    ∀ s : State, step { s with pending := [] } = .next { s with pending := [] }

/-- Every command in every state completes: none faults, and none is refused. -/
def Obligations.NoCommandStops : Prop := ∀ (i : Instr) (s : State), ∃ t : State, exec i s = .next t

/-- Every write of the window is a well-formed row whose own access is that write, so no bit of the offset or of the word is
dropped (R160, R163, R168); and a well-formed row whose access is a write of another register than TDATA0 is the row that
its own access is. -/
def Obligations.WindowWritesRoundTrip : Prop :=
  (∀ (c : CyclePhase) (levels tsel : Word) (tfield : BitVec 8) (offset : BitVec 6) (w : Word),
      wellFormed (writeRow c levels tsel tfield offset w) = true ∧
        accessOf (writeRow c levels tsel tfield offset w) = some (.write offset w)) ∧
    ∀ (i : Instr) (offset : BitVec 6) (w : Word), wellFormed i = true → accessOf i = some (.write offset w) → offset ≠ 0x08 →
      ∃ (c : CyclePhase) (levels : Word), ∀ (tsel : Word) (tfield : BitVec 8), writeRow c levels tsel tfield offset w = i

/-- A whole cycle, of a write or of a read, is the same as its beginning and then its owner's taking, and the state of the bus at
the taking changes nothing but the bus: an access whose strobe ended early, or that was held, has its whole effect (R158, R159).
The phases of a cycle, and that taking and latching the answer are one step, are the model's (log entry 8); so are reads of
registers as TABLE_FETCH (log entry 9). -/
def Obligations.LateTakingHasTheSameEffect : Prop :=
  ∀ (acc : Access) (levels : Word) (s : State), s.busReady = true →
    let row (c : CyclePhase) : Instr := s.rowOf levels c acc
    let b : Bus := { s.bus with
      cycle := .pending, unanswered := some ⟨acc, false⟩, csLow := true, bothLow := false, data := none }
    let driven (t : State) : Option Word := match acc with
      | .read offset => some (t.windowWord offset)
      | .write _ _ => none
    exec (row .begun) s = .next { s with bus := b } ∧ exec (row .taken) { s with bus := b } = exec (row .whole) s ∧
      ∃ t : State, exec (row .whole) s = .next t ∧ ∀ b' : Bus, b'.unanswered.map (·.access) = some acc →
        exec (row .taken) { s with bus := b' } = .next { t with bus := b'.answer (driven t) }

/-- A cycle that begins while an access is unanswered, or in recovery, is held with RDYn high; a strobe that ends early leaves its
access, fresh, unanswered or held, where it is; a held cycle is passed on once no access is unanswered (R158, R159, R175). The
end of a cycle releases the data lines and goes to FREE, CSn alone moves RDYn, and a cycle with both strobes low makes no
access and drives RDYn low until it ends (R158, R159, section 9.2). The model's own: the phases of a cycle (log entry 8), what
a cycle of both strobes leaves in the cycle state (11), moves of CSn as BUS_CYCLE_END (12), and that any number of cycles is
held (13). -/
def Obligations.HeldAndEndedCycles : Prop :=
  ((∀ (acc : Access) (levels : Word) (csHigh : Bool) (s : State),
        let row (c : CyclePhase) : Instr := s.rowOf levels c acc
        let held (cut csLow : Bool) : State := { s with bus := { s.bus with
          cycle := .pending, held := s.bus.held ++ [⟨acc, cut⟩], csLow := csLow, bothLow := false, data := none } }
        (s.mode = .recovering ∨ s.mode = .running ∧ s.bus.cycle = .pending → s.bus.strobeHigh = true →
          exec (row .begun) s = .next (held false true) ∧ (held false true).rdyn = .high ∧
            exec (row (.cutShort csHigh)) s = .next (held true !csHigh)) ∧
        (s.busReady = true → s.bus.strobeHigh = true → exec (row (.cutShort csHigh)) s = .next { s with bus := { s.bus with
          cycle := .pending, unanswered := some ⟨acc, true⟩, csLow := !csHigh, bothLow := false, data := none } }) ∧
        (s.mode ≠ .resetting → s.bus.held = [] → s.bus.unanswered = some ⟨acc, false⟩ →
          exec (row (.cutShort csHigh)) s =
            .next { s with bus := { s.bus with unanswered := some ⟨acc, true⟩, csLow := !csHigh } }) ∧
        ∀ earlier : List BusCycle, s.mode ≠ .resetting → s.bus.held = earlier ++ [⟨acc, false⟩] →
          exec (row (.cutShort csHigh)) s =
            .next { s with bus := { s.bus with held := earlier ++ [⟨acc, true⟩], csLow := !csHigh } }) ∧
      ∀ (x : BusCycle) (rest : List BusCycle) (s : State), s.mode = .running → s.bus.unanswered = none →
        s.bus.held = x :: rest →
          exec .heldCyclePassedOn s = .next { s with bus := { s.bus with unanswered := some x, held := rest } }) ∧
  ((∀ (csHigh : Bool) (s : State), s.mode = .running → s.bus.cycle = .done →
        ∃ t : State, exec (.busCycleEnd csHigh) s = .next t ∧
          t = { s with bus := { s.bus with cycle := .free, bothLow := false, csLow := !csHigh, data := none } } ∧
          t.rdyn = if csHigh then .released else .high) ∧
      ∀ (csHigh : Bool) (s : State), s.mode ≠ .resetting → s.bus.cycle ≠ .done → s.bus.bothLow = false →
        s.bus.strobeHigh = true →
          ∃ t : State, exec (.busCycleEnd csHigh) s = .next t ∧ t = { s with bus := { s.bus with csLow := !csHigh } } ∧
            t.rdyn = if csHigh then .released else .high) ∧
  ((∀ s : State, s.mode = .running → s.bus.cycle ≠ .pending →
        ∃ t : State, exec .bothStrobesLow s = .next t ∧ t = { s with bus := t.bus } ∧ t.rdyn = .low ∧ t.bus.data = none ∧
          ∀ csHigh : Bool, ∃ u : State, exec (.busCycleEnd csHigh) t = .next u ∧ u = { s with bus := u.bus } ∧
            u.bus.cycle = .free ∧ u.rdyn = if csHigh then .released else .high) ∧
      ∀ s : State, s.mode = .running → s.bus.cycle = .pending → s.bus.strobeHigh = true →
        ∃ t : State, exec .bothStrobesLow s = .next t ∧ t = { s with bus := { s.bus with bothLow := true, csLow := true } } ∧
          t.rdyn = .low ∧ ∀ csHigh : Bool,
            exec (.busCycleEnd csHigh) t = .next { s with bus := { s.bus with bothLow := false, csLow := !csHigh } })

/-- A read of a register other than TDATA0 drives that register's word and changes nothing behind the bus, RESULT included;
what each register reads as, the constants among them, and 0000h from 0Eh up; the bits of the flags and enables, the result
codes, and the value use in quarters rounded up (R138, R153, R156, R160 to R162, R164, R165, R167). That the row TABLE_FETCH carries these reads is the model's (log entry 9). -/
def Obligations.WindowReads : Prop :=
  (∀ (c : CyclePhase) (offset : BitVec 6) (s : State), s.takes c (.read offset) = true → offset ≠ 0x08 →
      exec (.tableFetch c offset) s = .next { s with bus := s.busAfter c (some (s.windowWord offset)) }) ∧
  (∀ s : State, s.windowWord 0x00 = 0x3208 ∧ s.windowWord 0x01 = 0x77F7 ∧
    s.windowWord 0x02 = s.events.flags.setWidth 16 ∧ s.windowWord 0x03 = s.events.enables.setWidth 16 ∧
    s.windowWord 0x04 = 0 ∧ (s.windowWord 0x05).toNat = s.host.result.number ∧ s.windowWord 0x06 = s.host.tsel ∧
    (s.windowWord 0x07).extractLsb' 0 8 = s.host.tfield ∧ (s.windowWord 0x07).msb = s.host.absent ∧
    (s.windowWord 0x07).extractLsb' 8 7 = 0 ∧
    s.windowWord 0x09 = s.host.latchMid ∧ s.windowWord 0x0A = s.host.latchHigh ∧ s.windowWord 0x0C = s.queue.watermark ∧
    (∀ n : Fin 16, (s.windowWord 0x0D).getLsbD n.val = (s.line n).level) ∧
    (∀ offset : BitVec 6, 0x0E ≤ offset.toNat → s.windowWord offset = 0) ∧
    (s.queue.Sound → (s.windowWord 0x0B).toNat = s.queue.quarters * 256 + s.queue.records.length)) ∧
  (∀ s : State,
    ((List.range 16).map (s.windowWord 0x02).getLsbD =
      [s.events.level, s.events.ovfrec, s.events.wait, s.events.agent, decide (s.events.link ≠ .clear),
        decide (s.events.loss ≠ .clear), decide (s.events.chain ≠ .clear)] ++ List.replicate 9 false) ∧
    (∀ i : Nat, (s.windowWord 0x03).getLsbD i = (decide (i < 7) && s.events.enables.getLsbD i)) ∧
    (s.windowWord 0x05).toNat = (match s.host.result with
      | .ok => 0 | .busy => 1 | .state => 2 | .range => 3 | .locked => 4 | .full => 5 | .empty => 6 | .unknown => 7
      | .readonly => 8) ∧
    (s.queue.Sound → ∃ quarters : Nat, quarters ≤ 64 ∧
      (s.windowWord 0x0B).toNat = quarters * 256 + s.queue.records.length ∧
      s.queue.valueUse ≤ 4 * quarters ∧ 4 * quarters < s.queue.valueUse + 4))

/-! ## Timebase -/

/-- The interval of each period code, in periods of the 40 MHz clock, is the table of R2; an expiry adds one to the epoch, begins
an interval under the code as it stands, and sends one tick on each of the two paths (R3, R10). -/
def Obligations.IntervalsAndTicks : Prop :=
  ((List.range 16).map (fun n => intervalLength (BitVec.ofNat 4 n)) =
      [40, 80, 200, 400, 800, 2000, 4000, 8000, 20000, 40000, 80000, 200000, 400000, 800000, 2000000, 4000000]) ∧
  (∀ (code : BitVec 4) (s : State), s.mode = .running → s.timebase.state = .running code →
      exec .intervalExpiry s = .next
        { s with
          timebase := { s.timebase with epoch := s.timebase.epoch + 1, state := .running s.timebase.periodCode }
          paths := { s.paths with
            ticksToEngine := s.paths.ticksToEngine + 1, ticksToReceiver := s.paths.ticksToReceiver + 1 } })

/-- TIMEBASE START begins an interval in STOPPED and is refused with STATE in RUNNING (R4); TIMEBASE STOP abandons the interval
in RUNNING and is refused with STATE in STOPPED (R5). -/
def Obligations.TimebaseCommands : Prop :=
  (∀ (c : CyclePhase) (op : BitVec 8) (s : State), s.takes c (.write 0x04 (cmdWord 0x20 op)) = true →
      (s.timebase.state = .stopped → exec (.timebaseStart c op) s = .next
        (State.answered { s with timebase := { s.timebase with state := .running s.timebase.periodCode } } c .ok)) ∧
      (s.timebase.state ≠ .stopped → exec (.timebaseStart c op) s = .next (s.answered c .state))) ∧
  (∀ (c : CyclePhase) (op : BitVec 8) (s : State), s.takes c (.write 0x04 (cmdWord 0x21 op)) = true →
      (s.timebase.state ≠ .stopped → exec (.timebaseStop c op) s = .next
        (State.answered { s with timebase := { s.timebase with state := .stopped } } c .ok)) ∧
      (s.timebase.state = .stopped → exec (.timebaseStop c op) s = .next (s.answered c .state)))

/-- A period code of at most 15 is accepted in either state and leaves the interval in progress; the epoch is written in
STOPPED alone (R6, R7). -/
def Obligations.TimebaseFieldWrites : Prop :=
  ∀ (c : CyclePhase) (w : Word) (s : State), s.takes c (.write 0x08 w) = true →
    (s.selected = some (.timebase .periodCode) → (s.host.commitValue w).toNat ≤ 15 → exec (.periodCodeWrite c w) s = .next
      (State.committed { s with timebase := { s.timebase with periodCode := (s.host.commitValue w).setWidth 4 } } c w .ok)) ∧
    (s.selected = some (.timebase .periodCode) → 15 < (s.host.commitValue w).toNat →
      exec (.periodCodeWrite c w) s = .next (s.committed c w .range)) ∧
    (s.selected = some (.timebase .epoch) → s.timebase.state = .stopped → exec (.epochWrite c w) s = .next
      (State.committed { s with timebase := { s.timebase with epoch := s.host.commitValue w } } c w .ok)) ∧
    (s.selected = some (.timebase .epoch) → s.timebase.state ≠ .stopped →
      exec (.epochWrite c w) s = .next (s.committed c w .locked))

/-! ## Line Inputs -/

/-- A recognised change toggles the level of its line, and sends one LINE event where the line is enabled and its edge field
selects the change (R13). -/
def Obligations.LineChangeReports : Prop :=
  ∀ (n : Fin 16) (s : State), s.mode = .running →
    let l : Line := s.line n
    let reports : Bool := l.enabled && (decide (l.edge = .both) || decide (l.edge = if l.level then .falling else .rising))
    ∃ t : State, exec (.lineChange n) s = .next t ∧ t = { s with lines := t.lines, paths := t.paths } ∧
      t.paths = { s.paths with lineEvents := if reports then s.paths.lineEvents ++ [n] else s.paths.lineEvents } ∧
      t.line n = { l with level := !l.level } ∧ ∀ m : Fin 16, m ≠ n → t.line m = s.line m

/-- Enabled and edge of a line are written at any time (0 RISING, 1 FALLING, 2 BOTH), level is read only, and a value that
encodes nothing is refused with RANGE (R11, R14, R171). -/
def Obligations.LineFieldWrites : Prop :=
  ∀ (c : CyclePhase) (w : Word) (n : Fin 16) (s : State), s.takes c (.write 0x08 w) = true →
    let v : Latch := s.host.commitValue w
    (s.selected = some (.line n .enabled) →
      (∀ b : Bool, v = bit48 b → exec (.lineFieldWrite c w) s = .next
        (State.committed (s.modifyLine n fun l => { l with enabled := b }) c w .ok)) ∧
      (1 < v.toNat → exec (.lineFieldWrite c w) s = .next (s.committed c w .range))) ∧
    (s.selected = some (.line n .edge) →
      (∀ e : Edge, v.toNat = (match e with | .rising => 0 | .falling => 1 | .both => 2) →
        exec (.lineFieldWrite c w) s = .next (State.committed (s.modifyLine n fun l => { l with edge := e }) c w .ok)) ∧
      (2 < v.toNat → exec (.lineFieldWrite c w) s = .next (s.committed c w .range))) ∧
    (s.selected = some (.line n .level) → exec (.lineFieldWrite c w) s = .next (s.committed c w .readonly))

/-! ## The tally link -/

/-- Every frame that a sender builds has the preamble 10b, passes the check, and is read as the content it was built from; and
one wrong bit in its content or its check makes the check fail (R20, R21). -/
def Obligations.FrameRoundTripAndCheck : Prop :=
  (∀ x : Frame, framePreamble (encodeFrame x) = 0b10 ∧ checkPasses (encodeFrame x) = true ∧ frameOf (encodeFrame x) = x) ∧
  (∀ (x : Frame) (i : Fin 32), checkPasses (encodeFrame x ^^^ (1#32 <<< i.val)) = decide (30 ≤ i.val))

/-- A rising edge of TCLK restarts the quiet measurement and, short of a thirty-second bit, does by the reception state what
R18 says. -/
def Obligations.TclkEdgeByReception : Prop :=
  ∀ (bit : Bool) (s : State), s.mode = .running →
    (∀ r : Reception, r = .off ∨ r = .sync ∨ (r = .wait ∧ bit = true) → s.receiver.reception = r →
      exec (.tclkRisingEdge bit) s = .next { s with receiver := { s.receiver with quiet := false } }) ∧
    (s.receiver.reception = .wait → bit = false → exec (.tclkRisingEdge bit) s = .next
      { s with receiver := { s.receiver with quiet := false, reception := .receiving 0 0 } }) ∧
    ∀ (n : Fin 31) (bits : BitVec 32), s.receiver.reception = .receiving n.castSucc bits →
      ∃ bits' : BitVec 32, exec (.tclkRisingEdge bit) s = .next
          { s with receiver := { s.receiver with quiet := false, reception := .receiving n.succ bits' } } ∧
        bits'.getLsbD 0 = bit ∧ ∀ j : Nat, j < 31 → bits'.getLsbD (j + 1) = bits.getLsbD j

/-- The thirty-second bit completes the frame, which is judged in the same event: preamble first, then the check, and an
agent that is not enabled (R18, R22, R23). -/
def Obligations.BadFramesAreCounted : Prop :=
  ∀ (bit : Bool) (bits : BitVec 32) (s : State), s.mode = .running → s.receiver.reception = .receiving 31 bits →
    let f : BitVec 32 := (bits <<< 1) ||| (BitVec.ofBool bit).setWidth 32
    let r : Receiver := { s.receiver with quiet := false, reception := .wait }
    let after (r' : Receiver) (kind : ErrorKind) (subject : Option (Fin 8)) : State :=
      { s with receiver := r', paths := { s.paths with fromReceiver := s.paths.fromReceiver ++ [.error kind subject] } }
    exec (.frameComplete bit) s = exec (.tclkRisingEdge bit) s ∧
    (framePreamble f ≠ 0b10 → exec (.frameComplete bit) s = .next
      (after { r with framingErrors := satInc r.framingErrors } .framing none)) ∧
    (framePreamble f = 0b10 → checkPasses f = false → exec (.frameComplete bit) s = .next
      (after { r with checkErrors := satInc r.checkErrors } .check none)) ∧
    (framePreamble f = 0b10 → checkPasses f = true → (s.agent (frameOf f).agent).enabled = false →
      exec (.frameComplete bit) s = .next
        (after { r with unexpected := satInc r.unexpected } .unexpected (some (frameOf f).agent)))

/-- A good frame from an enabled agent is accepted: it makes a SILENT or LOST agent ACTIVE with an AGENT status event and no
gap, and at an ACTIVE agent counts and reports a gap in the numbering (R26, R27, R28, R35, R36). -/
def Obligations.GoodFramesAreAccepted : Prop :=
  ∀ (bit : Bool) (bits : BitVec 32) (s : State), s.mode = .running → s.receiver.reception = .receiving 31 bits →
    let f : BitVec 32 := (bits <<< 1) ||| (BitVec.ofBool bit).setWidth 32
    let x : Frame := frameOf f
    let r : Agent := s.agent x.agent
    let accepted (missed : BitVec 16) : Agent :=
      { r with state := .active (x.sequence + 1), silenceElapsed := 0, accepted := r.accepted + 1, missed := missed }
    let sent (notices : List Notice) : Paths :=
      { s.paths with
        linkToEngine := s.paths.linkToEngine ++ (if x.keepalive then [] else [.channel x.agent x.channel x.amount])
        fromReceiver := s.paths.fromReceiver ++ notices }
    framePreamble f = 0b10 → checkPasses f = true → r.enabled = true →
      ∃ t : State, exec (.frameComplete bit) s = .next t ∧
        t = { s with receiver := { s.receiver with quiet := false, reception := .wait }, agents := t.agents, paths := t.paths } ∧
        (∀ a : Fin 8, a ≠ x.agent → t.agent a = s.agent a) ∧
        ((∀ e : BitVec 4, r.state ≠ .active e) → t.agent x.agent = accepted r.missed ∧ t.paths = sent [.status .agent]) ∧
        (∀ e : BitVec 4, r.state = .active e → x.sequence = e → t.agent x.agent = accepted r.missed ∧ t.paths = sent []) ∧
        (∀ e : BitVec 4, r.state = .active e → x.sequence ≠ e →
          t.agent x.agent = accepted (BitVec.ofNat 16 (min (r.missed.toNat + (x.sequence - e).toNat) 65535)) ∧
            t.paths = sent [.error .seqGap (some x.agent)])

/-- The expiry of the quiet measurement ends a frame in progress as one framing error, and takes SYNC to WAIT (R19). -/
def Obligations.QuietExpiryByReception : Prop :=
  ∀ s : State, s.mode = .running →
    (∀ (n : Fin 32) (bits : BitVec 32), s.receiver.reception = .receiving n bits → exec .quietTimeExpiry s = .next
      { s with
        receiver := { s.receiver with
          quiet := true, reception := .wait, framingErrors := satInc s.receiver.framingErrors }
        paths := { s.paths with fromReceiver := s.paths.fromReceiver ++ [.error .framing none] } }) ∧
    (s.receiver.reception = .sync → exec .quietTimeExpiry s = .next
      { s with receiver := { s.receiver with quiet := true, reception := .wait } }) ∧
    (s.receiver.reception = .wait ∨ s.receiver.reception = .off → exec .quietTimeExpiry s = .next
      { s with receiver := { s.receiver with quiet := true } })

/-- A tick at the receiver ages every ACTIVE agent with a limit; those that reach it go LOST, with AGENT_DOWN notices and
status events in ascending order (R29, R30). The model's own: the row AGENT_LOST is that tick (log entry 5), and silence
elapsed at 255, which no ACTIVE agent of a run has, stays at 255 (log entry 15). -/
def Obligations.ReceiverTickAgesAgents : Prop :=
  ∀ s : State, s.mode = .running → s.paths.ticksToReceiver ≠ 0 →
    ∃ t : State, exec .receiverTick s = .next t ∧ t = { s with agents := t.agents, paths := t.paths } ∧
      (∀ a : Fin 8, t.agent a =
        (let r := s.agent a
         if (∃ e, r.state = .active e) ∧ r.silenceLimit ≠ 0 then
           if r.silenceLimit.toNat ≤ r.silenceElapsed.toNat + 1 then
             { r with state := .lost, silenceElapsed := satInc r.silenceElapsed, timesLost := satInc r.timesLost }
           else { r with silenceElapsed := r.silenceElapsed + 1 }
         else r)) ∧
      t.paths = { s.paths with
        ticksToReceiver := s.paths.ticksToReceiver - 1
        linkToEngine := s.paths.linkToEngine ++ s.lostAtTick.map .agentDown
        fromReceiver := s.paths.fromReceiver ++ s.lostAtTick.map fun _ => .status .agent } ∧
      ∀ a ∈ s.lostAtTick, exec (.agentLost a) s = .next t

/-- The receiver's enabled field: enabling goes to WAIT after 4 µs of quiet and else to SYNC, disabling to OFF, and the counts are
read only (section 2.2, R24). Agent enabled and silence limit: enabling leaves the agent SILENT, disabling makes it SILENT and
tells of an ACTIVE agent going down, and a limit is any number to 255 (R31, R32). -/
def Obligations.LinkFieldWrites : Prop :=
  (∀ (c : CyclePhase) (w : Word) (f : ReceiverField) (s : State), s.takes c (.write 0x08 w) = true →
      s.selected = some (.receiver f) →
      (f ≠ .enabled → exec (.receiverEnabledWrite c w) s = .next (s.committed c w .readonly)) ∧
      (f = .enabled → 1 < (s.host.commitValue w).toNat →
        exec (.receiverEnabledWrite c w) s = .next (s.committed c w .range)) ∧
      (f = .enabled → s.host.commitValue w = bit48 s.receiver.enabled →
        exec (.receiverEnabledWrite c w) s = .next (s.committed c w .ok)) ∧
      (f = .enabled → s.host.commitValue w = 1 → s.receiver.enabled = false → exec (.receiverEnabledWrite c w) s = .next
        (State.committed { s with receiver :=
          { s.receiver with enabled := true, reception := if s.receiver.quiet then .wait else .sync } } c w .ok)) ∧
      (f = .enabled → s.host.commitValue w = 0 → s.receiver.enabled = true → exec (.receiverEnabledWrite c w) s = .next
        (State.committed { s with receiver := { s.receiver with enabled := false, reception := .off } } c w .ok))) ∧
  (∀ (c : CyclePhase) (w : Word) (a : Fin 8) (s : State), s.takes c (.write 0x08 w) = true →
      let v : Latch := s.host.commitValue w
      let r : Agent := s.agent a
      (s.selected = some (.agent a .silenceLimit) → v.toNat ≤ 255 → exec (.silenceLimitWrite c w) s = .next
        (State.committed (s.modifyAgent a fun x => { x with silenceLimit := v.setWidth 8 }) c w .ok)) ∧
      (s.selected = some (.agent a .silenceLimit) → 255 < v.toNat →
        exec (.silenceLimitWrite c w) s = .next (s.committed c w .range)) ∧
      (s.selected = some (.agent a .enabled) → 1 < v.toNat →
        exec (.agentEnabledWrite c w) s = .next (s.committed c w .range)) ∧
      (s.selected = some (.agent a .enabled) → v = bit48 r.enabled →
        exec (.agentEnabledWrite c w) s = .next (s.committed c w .ok)) ∧
      (s.selected = some (.agent a .enabled) → v = 1 → r.enabled = false → exec (.agentEnabledWrite c w) s = .next
        (State.committed (s.modifyAgent a fun x => { x with enabled := true }) c w .ok)) ∧
      (s.selected = some (.agent a .enabled) → v = 0 → r.enabled = true →
        ∃ t : State, exec (.agentEnabledWrite c w) s = .next (t.committed c w .ok) ∧
          t = { s with agents := t.agents, paths := t.paths } ∧ (∀ b : Fin 8, b ≠ a → t.agent b = s.agent b) ∧
          t.agent a = { r with
            enabled := false, state := .silent, silenceElapsed := if r.state = .silent then r.silenceElapsed else 0 } ∧
          t.paths = { s.paths with
            linkToEngine := s.paths.linkToEngine ++ (if r.state.expected?.isSome then [.agentDown a] else [])
            fromReceiver := s.paths.fromReceiver ++ (if r.state = .silent then [] else [.status .agent]) }))

/-- LINK RESTART makes every agent SILENT, with an AGENT_DOWN for each that was ACTIVE and a status event for each that
changes, ascending (R33). LINK CLEAR COUNTS zeroes the counts of receiver and agents and nothing else (R34). -/
def Obligations.LinkCommands : Prop :=
  ∀ (c : CyclePhase) (op : BitVec 8) (s : State),
    (s.takes c (.write 0x04 (cmdWord 0x32 op)) = true →
      ∃ t : State, exec (.linkRestart c op) s = .next (t.answered c .ok) ∧
        t = { s with agents := t.agents, paths := t.paths } ∧
        (∀ a : Fin 8, t.agent a = if (s.agent a).state = .silent then s.agent a
          else { s.agent a with state := .silent, silenceElapsed := 0 }) ∧
        t.paths = { s.paths with
          linkToEngine := s.paths.linkToEngine ++
            (agentIds.filter fun a => (s.agent a).state.expected?.isSome).map .agentDown
          fromReceiver := s.paths.fromReceiver ++
            (agentIds.filter fun a => decide ((s.agent a).state ≠ .silent)).map fun _ => .status .agent }) ∧
    (s.takes c (.write 0x04 (cmdWord 0x33 op)) = true →
      ∃ t : State, exec (.linkClearCounts c op) s = .next (t.answered c .ok) ∧
        t = { s with
          receiver := { s.receiver with checkErrors := 0, framingErrors := 0, unexpected := 0 }, agents := t.agents } ∧
        ∀ a : Fin 8, t.agent a = { s.agent a with accepted := 0, missed := 0, timesLost := 0 })

/-- AGENT_DOWN marks every counter stale whose source is a channel of the agent, and nothing else (R49). -/
def Obligations.AgentDownMarksStale : Prop :=
  ∀ (a : Fin 8) (rest : List LinkMessage) (s : State), s.mode = .running → s.paths.linkToEngine = .agentDown a :: rest →
    ∃ t : State, exec .agentDown s = .next t ∧
      t = { s with counters := t.counters, paths := { s.paths with linkToEngine := rest } } ∧
      ∀ k : Fin 32, t.counter k =
        if ∃ ch : Fin 4, (s.counter k).source = .channel a ch then { s.counter k with stale := true } else s.counter k

/-! ## Source events and counters -/

/-- The event rows of the Count Engine take the message at the front of their path, and apply it as one source event: a LINE
event with amount 1, a CHANNEL event with its amount, an OVERFLOW event and a PLACED event with amount 1 (R13, R46, R61). -/
def Obligations.SourceEventsAreApplied : Prop :=
  ∀ s : State, s.mode = .running →
    (∀ (n : Fin 16) (rest : List (Fin 16)), s.paths.lineEvents = n :: rest → exec (.sourceEvent .lines) s = .next
      (applySource (.line n) 1 { s with paths := { s.paths with lineEvents := rest } })) ∧
    (∀ (a : Fin 8) (ch : Fin 4) (x : Amount) (rest : List LinkMessage), s.paths.linkToEngine = .channel a ch x :: rest →
      exec (.sourceEvent .link) s = .next
        (applySource (.channel a ch) x { s with paths := { s.paths with linkToEngine := rest } })) ∧
    (∀ (k : Fin 32) (rest : List (Fin 32)), s.paths.overflows = k :: rest → exec .overflowEvent s = .next
      (applySource (.overflow k) 1 { s with paths := { s.paths with overflows := rest } })) ∧
    ∀ (g : Fin 8) (rest : List (Fin 8)), s.paths.placements = g :: rest → exec .placedEvent s = .next
      (applySource (.placed g) 1 { s with paths := { s.paths with placements := rest } })

/-- The qualification test of each mode, and what a counting, a suspended and an idle counter do with it (R41, R42, R43, R45,
R48). -/
def Obligations.CounterTakesEvent : Prop :=
  ∀ (c : Counter) (x : Amount),
    let band : Bool := decide (c.bandLow.toNat ≤ x.toNat ∧ x.toNat ≤ c.bandHigh.toNat)
    let tested : Counter := { c with inside := if c.mode = .enterBand then band else c.inside }
    (c.mode = .sum → c.increment x = if x.toNat = 0 then none else some x.toNat) ∧
    (c.mode = .inBand → c.increment x = if band then some 1 else none) ∧
    (c.mode = .outBand → c.increment x = if band then none else some 1) ∧
    (c.mode = .enterBand → c.increment x = if band = true ∧ c.inside = false then some 1 else none) ∧
    c.take .idle x = c ∧ c.take .suspended x = tested ∧
    (c.increment x = none → c.take .counting x = tested ∧ c.wraps .counting x = false) ∧
    (∀ i : Nat, c.increment x = some i → 1 ≤ i ∧ i ≤ 4095 ∧
      (c.value.toNat + i ≤ 2 ^ 40 - 1 → c.wraps .counting x = false ∧
        c.take .counting x = { tested with value := c.value + BitVec.ofNat 40 i } ∧
        (c.take .counting x).value.toNat = c.value.toNat + i) ∧
      (2 ^ 40 - 1 < c.value.toNat + i → c.wraps .counting x = true ∧
        c.take .counting x = { tested with value := c.value + BitVec.ofNat 40 i, wrapped := true } ∧
        (c.take .counting x).value.toNat = c.value.toNat + i - 2 ^ 40 ∧ (c.take .counting x).value.toNat ≤ 4094))

/-- One source event at the counters: every counter that selects the source takes it by its own position, counting in an enabled
member of a RUNNING group, suspended in one of a STALLED group, and else idle; the qualifying suspended members are what a group
loses (R77); each wrap sends an OVERFLOW event in ascending order, and the members of a group that takes an overflow capture have their flags cleared and,
with reload, their presets. No other block is touched (R41, R46, R58, R92). -/
def Obligations.SourceEventCounts : Prop :=
  ∀ (src : Source) (x : Amount) (s : State),
    let t : State := applySource src x s
    let counted (k : Fin 32) : Counter :=
      if (s.counter k).source = src then (s.counter k).take (s.position (s.counter k)) x else s.counter k
    let captures (k : Fin 32) : Bool := (s.counter k).group.any fun g => s.takesOverflow (s.wrappedBy src x) g
    let reloads (k : Fin 32) : Bool := (s.counter k).group.any fun g => (s.group g).reloadAfter
    (∀ k : Fin 32, t.counter k =
      if captures k then { counted k with
        wrapped := false, stale := false, value := if reloads k then (s.counter k).preset else (counted k).value }
      else counted k) ∧
    (∀ c : Counter, s.position c =
      if c.enabled = true ∧ ∃ g : Fin 8, c.group = some g ∧ (s.group g).state = .running then .counting
      else if c.enabled = true ∧ ∃ g : Fin 8, c.group = some g ∧ (s.group g).state.isStalled = true then .suspended
      else .idle) ∧
    (∀ g : Fin 8, s.losses src x g =
      if (s.group g).state.isStalled = true then
        counterIds.countP fun k => decide ((s.counter k).group = some g ∧ (s.counter k).enabled = true ∧
          (s.counter k).source = src ∧ (s.counter k).increment x ≠ none)
      else 0) ∧
    t.paths.overflows = s.paths.overflows ++ s.wrappedBy src x ∧
    (∀ k : Fin 32, k ∈ s.wrappedBy src x ↔
      (s.counter k).source = src ∧ (s.counter k).wraps (s.position (s.counter k)) x = true) ∧
    t = { s with
      counters := t.counters, groups := t.groups, chainTag := t.chainTag, freeCount := t.freeCount
      paths := { s.paths with
        overflows := t.paths.overflows, draftPath := t.paths.draftPath
        chainRequests := t.paths.chainRequests, fromEngine := t.paths.fromEngine } }

/-- One source event at the groups: each group notes the qualifying events that its suspended members lose, and a RUNNING
group with members that wrapped with overflow capture yes takes one capture, with those members as the set, or misses it
(R59, R77, R89, R99). The drafts leave in ascending group number, hold the values after the event, and draw their chain tags in
that order; each chain started sends its first request (R95, R111, R112). The reports of first losses leave before those of
missed captures, their order free (R78; log entry 3). -/
def Obligations.SourceEventAtGroups : Prop :=
  ∀ (src : Source) (x : Amount) (s : State),
    let t : State := applySource src x s
    let w : List (Fin 32) := s.wrappedBy src x
    let taking : List (Fin 8) := groupIds.filter (s.takesOverflow w)
    let noted (g : Fin 8) : Group :=
      if s.losses src x g = 0 then s.group g
      else { s.group g with lost := satAdd (s.group g).lost (s.losses src x g), stallNoted := true }
    (∀ g : Fin 8, t.group g =
      if s.takesOverflow w g then (noted g).afterCapture
      else if s.missesOverflow w g then { noted g with missed := satInc (s.group g).missed }
      else noted g) ∧
    t.paths.draftPath = s.paths.draftPath ++ taking.map (fun g => .draft
      (s.draftAmong taking g (.overflow (maskOf (s.overflowSet w g))) ((s.members g).map (countEvent src x s).entry))) ∧
    t.chainTag = s.chainTag + BitVec.ofNat 8 (s.chainStarters taking).length ∧
    t.paths.chainRequests = s.paths.chainRequests ++ s.firstRequests taking ∧
    ∃ order : List (Fin 8), order.Perm (groupIds.filter fun g => decide (s.losses src x g ≠ 0) && !(s.group g).stallNoted) ∧
      t.paths.fromEngine = s.paths.fromEngine ++ order.map (fun g => .error .stallLoss (some g)) ++
        (groupIds.filter (s.missesOverflow w)).map fun g => .error .missed (some g)

/-- The first loss of each stall is reported once, whatever the number of members, and the rows of source events send those
reports; the order of the reports of one event is the model's free value (R77, R78; log entry 3). -/
def Obligations.StallLossReports : Prop :=
  (∀ (lost : Fin 8 → Nat) (s : State), ∃ order : List (Fin 8),
    order.Perm (groupIds.filter fun g => decide (lost g ≠ 0) && !(s.group g).stallNoted) ∧
      (noteLosses lost s).paths = { s.paths with
        fromEngine := s.paths.fromEngine ++ order.map fun g => .error .stallLoss (some g) } ∧
      (∀ g : Fin 8, lost g ≠ 0 → ((noteLosses lost s).group g).stallNoted = true) ∧
      (∀ g : Fin 8, lost g ≠ 0 → ((noteLosses lost s).group g).lost.toNat =
        min ((s.group g).lost.toNat + lost g) 4294967295) ∧
      ∀ g : Fin 8, lost g = 0 → (noteLosses lost s).group g = s.group g) ∧
  (∀ (i : Instr) (src : Source) (x : Amount) (p s : State), s.mode = .running →
    (∃ path : SourcePath, i = .sourceEvent path ∧ frontSource path s = some (src, x, p)) ∨
      (∃ (k : Fin 32) (rest : List (Fin 32)), i = .overflowEvent ∧ s.paths.overflows = k :: rest ∧ src = .overflow k ∧ x = 1 ∧
        p = { s with paths := { s.paths with overflows := rest } }) ∨
      (∃ (g : Fin 8) (rest : List (Fin 8)), i = .placedEvent ∧ s.paths.placements = g :: rest ∧ src = .placed g ∧ x = 1 ∧
        p = { s with paths := { s.paths with placements := rest } }) →
    ∃ (t : State) (order : List (Fin 8)), exec i s = .next t ∧
      order.Perm (groupIds.filter fun g => decide (p.losses src x g ≠ 0) && !(p.group g).stallNoted) ∧
      t.paths.fromEngine = p.paths.fromEngine ++ order.map (fun g => .error .stallLoss (some g)) ++
        (groupIds.filter (p.missesOverflow (p.wrappedBy src x))).map (fun g => .error .missed (some g)) ∧
      ∀ g : Fin 8, p.losses src x g ≠ 0 → (t.group g).stallNoted = true ∧
        (t.group g).lost.toNat = min ((p.group g).lost.toNat + p.losses src x g) 4294967295)

/-- A tick at the Count Engine is first the TICK source event, then the countdown of every group, ascending: one less, and at
0 the period again with a PERIODIC cause taken or missed (R60, R75, R93, R99). The captures draw their chain tags and send
their first requests in ascending group number, after those of the first part (R95, R111, R112; log entry 19), and each missed
cause is reported. The row PERIODIC_CAUSE is that tick (log entry 5). -/
def Obligations.EngineTickCountsDown : Prop :=
  ∀ s : State, s.mode = .running → s.paths.ticksToEngine ≠ 0 →
    let p : State := { s with paths := { s.paths with ticksToEngine := s.paths.ticksToEngine - 1 } }
    let u : State := applySource .tick 1 p
    let taking : List (Fin 8) := groupIds.filter fun g => (u.group g).takesPeriodic
    ∃ t : State, exec .engineTick s = .next t ∧
      (∀ g : Fin 8, t.group g =
        (let x := u.group g
         if x.takesPeriodic then Group.afterCapture { x with countdown := x.period }
         else if x.missesPeriodic then { x with countdown := x.period, missed := satInc x.missed }
         else if x.countsDown then { x with countdown := x.countdown - 1 }
         else x)) ∧
      (∀ k : Fin 32, t.counter k =
        if (u.counter k).group.any fun g => (u.group g).takesPeriodic then
          { u.counter k with
            wrapped := false, stale := false
            value := if (u.counter k).group.any fun g => (u.group g).reloadAfter then (u.counter k).preset
              else (u.counter k).value }
        else u.counter k) ∧
      t = { u with
        counters := t.counters, groups := t.groups
        chainTag := u.chainTag + BitVec.ofNat 8 (u.chainStarters taking).length
        paths := { u.paths with
          draftPath := u.paths.draftPath ++
            taking.map fun g => .draft (u.draftAmong taking g .periodic ((u.members g).map u.entry))
          chainRequests := u.paths.chainRequests ++ u.firstRequests taking
          fromEngine := u.paths.fromEngine ++
            (groupIds.filter fun g => (u.group g).missesPeriodic).map fun g => .error .missed (some g) } } ∧
      ∀ g : Fin 8, (u.group g).takesPeriodic = true ∨ (u.group g).missesPeriodic = true → exec (.periodicCause g) s = .next t

/-! ## Captures and chains -/

/-- Capture taking: the members frozen into a draft stamped with the epoch and sent on the draft path, their flags cleared
and their presets loaded with reload, a RUNNING group held with hold, outstanding yes, and a chain started, passed on or ended
at a loop (section 5.2, R91 to R95, R111 to R114). -/
def Obligations.CaptureTakingInSixSteps : Prop :=
  ∀ (g : Fin 8) (cause : CaptureCause) (s : State),
    let t : State := takeCapture g cause s
    let next : Option (Fin 8) := (s.group g).chainNext
    let starts : Bool := next.isSome && (match cause with | .chain _ => false | _ => true)
    t = { s with counters := t.counters, groups := t.groups, chainTag := t.chainTag, paths := t.paths } ∧
    (∀ h : Fin 8, t.group h = if h = g then (s.group g).afterCapture else s.group h) ∧
    (∀ k : Fin 32, t.counter k =
      if (s.counter k).group = some g then { s.counter k with
        wrapped := false, stale := false
        value := if (s.group g).reloadAfter then (s.counter k).preset else (s.counter k).value }
      else s.counter k) ∧
    t.chainTag = (if starts then s.chainTag + 1 else s.chainTag) ∧
    t.paths.draftPath = s.paths.draftPath ++ [.draft
      { group := g
        cause := cause.shown
        chainTag := match cause with
          | .chain r => some r.chainTag
          | _ => if next.isSome then some s.chainTag else none
        captureEpoch := s.timebase.epoch
        policy := (s.group g).policy
        entries := (s.members g).map fun k => ⟨k, (s.counter k).value, (s.counter k).wrapped, (s.counter k).stale⟩ }] ∧
    (next = none → t.paths = { s.paths with draftPath := t.paths.draftPath }) ∧
    (∀ n : Fin 8, next = some n → starts = true → t.paths = { s.paths with
      draftPath := t.paths.draftPath
      chainRequests := s.paths.chainRequests ++ [⟨g, s.chainTag, [g], 1, n⟩] }) ∧
    (∀ (n : Fin 8) (r : ChainRequest), next = some n → cause = .chain r →
      ∃ visited : List (Fin 8), (∀ h : Fin 8, h ∈ visited ↔ h ∈ r.visited ∨ h = g) ∧ (r.visited.Nodup → visited.Nodup) ∧
        (n ∈ visited → t.paths = { s.paths with
          draftPath := t.paths.draftPath, fromEngine := s.paths.fromEngine ++ [.error .loop (some n)] }) ∧
        (n ∉ visited → t.paths = { s.paths with
          draftPath := t.paths.draftPath
          chainRequests := s.paths.chainRequests ++ [⟨r.origin, r.chainTag, visited, visited.length, n⟩] }))

/-- GROUP CAPTURE takes the capture at a RUNNING or HELD group with no draft outstanding, is refused with BUSY while one is
outstanding, and with STATE in IDLE; a refusal changes nothing in the group (R87, R88). -/
def Obligations.GroupCaptureJudged : Prop :=
  ∀ (c : CyclePhase) (g : Fin 8) (s : State), s.takes c (.write 0x04 (groupWord 0x05 g)) = true →
    ((s.group g).state.isLive = true → (s.group g).outstanding = false →
      exec (.groupCapture c g) s = .next ((takeCapture g .host s).answered c .ok)) ∧
    ((s.group g).state ≠ .idle → (s.group g).outstanding = true →
      exec (.groupCapture c g) s = .next (s.answered c .busy)) ∧
    ((s.group g).state = .idle → exec (.groupCapture c g) s = .next (s.answered c .state))

/-- The chain request at the front of the chain path is taken at its target: a capture, a missed capture while the target's
draft is outstanding, or the end of the chain at an idle target (R110, R116, R117, R118). -/
def Obligations.ChainRequestAtTarget : Prop :=
  ∀ (r : ChainRequest) (rest : List ChainRequest) (s : State), s.mode = .running → s.paths.chainRequests = r :: rest →
    let p : State := { s with paths := { s.paths with chainRequests := rest } }
    let x : Group := s.group r.target
    (x.state.isLive = true → x.outstanding = false → exec .chainRequest s = .next (takeCapture r.target (.chain r) p)) ∧
    (x.state ≠ .idle → x.outstanding = true → ∃ t : State, exec .chainRequest s = .next t ∧
      t = { p with
        groups := t.groups, paths := { p.paths with fromEngine := p.paths.fromEngine ++ [.error .missed (some r.target)] } } ∧
      ∀ g : Fin 8, t.group g = if g = r.target then { x with missed := satInc x.missed } else s.group g) ∧
    (x.state = .idle → exec .chainRequest s = .next
      { p with paths := { p.paths with fromEngine := p.paths.fromEngine ++ [.error .idleTarget (some r.target)] } })

/-! ## Groups -/

/-- GROUP START: STATE unless IDLE, BUSY while a draft is outstanding, and else RUNNING with the countdown loaded from the
period and every member's inside no (R67). -/
def Obligations.GroupStartJudged : Prop :=
  ∀ (c : CyclePhase) (g : Fin 8) (s : State), s.takes c (.write 0x04 (groupWord 0x01 g)) = true →
    ((s.group g).state ≠ .idle → exec (.groupStart c g) s = .next (s.answered c .state)) ∧
    ((s.group g).state = .idle → (s.group g).outstanding = true → exec (.groupStart c g) s = .next (s.answered c .busy)) ∧
    ((s.group g).state = .idle → (s.group g).outstanding = false →
      ∃ t : State, exec (.groupStart c g) s = .next (t.answered c .ok) ∧
        t = { s with counters := t.counters, groups := t.groups } ∧
        (∀ h : Fin 8, t.group h =
          if h = g then { s.group g with state := .running, countdown := (s.group g).period } else s.group h) ∧
        ∀ k : Fin 32, t.counter k =
          if (s.counter k).group = some g then { s.counter k with inside := false } else s.counter k)

/-- GROUP HOLD and GROUP RESUME: HELD and RUNNING change into one another or stay, a STALLED group only changes its return state,
IDLE refuses with STATE; the countdown and the members are as they were (R68, R69). -/
def Obligations.GroupHoldAndResume : Prop :=
  (∀ (c : CyclePhase) (g : Fin 8) (s : State), s.takes c (.write 0x04 (groupWord 0x02 g)) = true →
      let becomes (st : GroupState) : State := s.modifyGroup g fun x => { x with state := st }
      ((s.group g).state = .running → exec (.groupHold c g) s = .next ((becomes .held).answered c .ok)) ∧
      ((s.group g).state = .held → exec (.groupHold c g) s = .next (s.answered c .ok)) ∧
      (∀ back : ReturnState, (s.group g).state = .stalled back →
        exec (.groupHold c g) s = .next ((becomes (.stalled .held)).answered c .ok)) ∧
      ((s.group g).state = .idle → exec (.groupHold c g) s = .next (s.answered c .state))) ∧
  (∀ (c : CyclePhase) (g : Fin 8) (s : State), s.takes c (.write 0x04 (groupWord 0x03 g)) = true →
      let becomes (st : GroupState) : State := s.modifyGroup g fun x => { x with state := st }
      ((s.group g).state = .held → exec (.groupResume c g) s = .next ((becomes .running).answered c .ok)) ∧
      ((s.group g).state = .running → exec (.groupResume c g) s = .next (s.answered c .ok)) ∧
      (∀ back : ReturnState, (s.group g).state = .stalled back →
        exec (.groupResume c g) s = .next ((becomes (.stalled .running)).answered c .ok)) ∧
      ((s.group g).state = .idle → exec (.groupResume c g) s = .next (s.answered c .state)))

/-- GROUP STOP makes the group IDLE and withdraws its outstanding draft, which stays outstanding (R70, R101). -/
def Obligations.GroupStopWithdraws : Prop :=
  ∀ (c : CyclePhase) (g : Fin 8) (s : State), s.takes c (.write 0x04 (groupWord 0x04 g)) = true →
    ((s.group g).state = .idle → exec (.groupStop c g) s = .next (s.answered c .state)) ∧
    ((s.group g).state ≠ .idle →
      ∃ t : State, exec (.groupStop c g) s = .next (t.answered c .ok) ∧ t = { s with groups := t.groups, paths := t.paths } ∧
        t.paths = { s.paths with
          draftPath := s.paths.draftPath ++ (if (s.group g).outstanding then [.withdraw g] else []) } ∧
        ∀ h : Fin 8, t.group h = if h = g then { s.group g with state := .idle, stallNoted := false } else s.group h)

/-- GROUP CLEAR and GROUP RELOAD set the members in IDLE and HELD, and are refused with STATE in RUNNING and STALLED
(R71, R72). -/
def Obligations.GroupClearAndReload : Prop :=
  ∀ (c : CyclePhase) (g : Fin 8) (s : State),
    let mayset : Prop := (s.group g).state = .idle ∨ (s.group g).state = .held
    (s.takes c (.write 0x04 (groupWord 0x06 g)) = true →
      (¬mayset → exec (.groupClear c g) s = .next (s.answered c .state)) ∧
      (mayset → ∃ t : State, exec (.groupClear c g) s = .next (t.answered c .ok) ∧ t = { s with counters := t.counters } ∧
        ∀ k : Fin 32, t.counter k =
          if (s.counter k).group = some g then { s.counter k with value := 0, wrapped := false, stale := false }
          else s.counter k)) ∧
    (s.takes c (.write 0x04 (groupWord 0x07 g)) = true →
      (¬mayset → exec (.groupReload c g) s = .next (s.answered c .state)) ∧
      (mayset → ∃ t : State, exec (.groupReload c g) s = .next (t.answered c .ok) ∧ t = { s with counters := t.counters } ∧
        ∀ k : Fin 32, t.counter k =
          if (s.counter k).group = some g then { s.counter k with value := (s.counter k).preset } else s.counter k))

/-- COUNTING RESET makes every group IDLE with its countdown, missed captures and lost increments 0, withdraws every
outstanding draft in ascending group number, and zeroes every counter's value and flags (R40, R81, R82). -/
def Obligations.CountingResetEverywhere : Prop :=
  ∀ (c : CyclePhase) (op : BitVec 8) (s : State), s.takes c (.write 0x04 (cmdWord 0x40 op)) = true →
    ∃ t : State, exec (.countingReset c op) s = .next (t.answered c .ok) ∧
      t = { s with counters := t.counters, groups := t.groups, paths := t.paths } ∧
      t.paths = { s.paths with
        draftPath := s.paths.draftPath ++ (groupIds.filter fun g => (s.group g).outstanding).map .withdraw } ∧
      (∀ g : Fin 8, t.group g =
        { s.group g with state := .idle, stallNoted := false, countdown := 0, missed := 0, lost := 0 }) ∧
      ∀ k : Fin 32, t.counter k = { s.counter k with value := 0, inside := false, wrapped := false, stale := false }

/-- The final answers clear outstanding; TAKEN and PLACED send a PLACED event, and PLACED ends a stall for the return state (R74,
R102, R104 to R107). A WAITING answer stalls a RUNNING or HELD group with the state it left as its return state, leaves an
IDLE group as it is, and leaves outstanding (R73, R103). A PLACED answer at a RUNNING or HELD group cannot come in a run, and
what it does there is the model's (log entry 15). -/
def Obligations.AnswersAtGroup : Prop :=
  (∀ (kind : AnswerKind) (g : Fin 8) (rest : List Answer) (s : State), s.mode = .running →
      s.paths.answers = ⟨kind, g⟩ :: rest →
      let x : Group := s.group g
      let ends (i : Instr) (x' : Group) (events : List (Fin 8)) : Prop :=
        ∃ t : State, exec i s = .next t ∧ t = { s with groups := t.groups, paths := t.paths } ∧
          t.paths = { s.paths with answers := rest, placements := s.paths.placements ++ events } ∧
          ∀ h : Fin 8, t.group h = if h = g then x' else s.group h
      (kind = .taken → ends .answerTaken { x with outstanding := false } [g]) ∧
      (kind = .refused → ends .answerRefused { x with outstanding := false } []) ∧
      (kind = .abandoned → ends .answerAbandoned { x with outstanding := false } []) ∧
      (kind = .placed → x.state.isStalled = false → ends .answerPlaced { x with outstanding := false } [g]) ∧
      (kind = .placed → x.state = .stalled .running →
        ends .answerPlaced { x with state := .running, outstanding := false, stallNoted := false } [g]) ∧
      (kind = .placed → x.state = .stalled .held →
        ends .answerPlaced { x with state := .held, outstanding := false, stallNoted := false } [g])) ∧
  (∀ (g : Fin 8) (rest : List Answer) (s : State), s.mode = .running → s.paths.answers = ⟨.waiting, g⟩ :: rest →
      let p : State := { s with paths := { s.paths with answers := rest } }
      let becomes (st : GroupState) : State := p.modifyGroup g fun x => { x with state := st, stallNoted := false }
      ((s.group g).state = .running → exec .answerWaiting s = .next (becomes (.stalled .running))) ∧
      ((s.group g).state = .held → exec .answerWaiting s = .next (becomes (.stalled .held))) ∧
      ((s.group g).state = .idle → exec .answerWaiting s = .next p))

/-! ## Writes of the counter and group records -/

/-- Configuration writes of a counter: READONLY, then LOCKED unless its group is NONE or IDLE, then RANGE by the field, and an
accepted write makes inside no (R44, R51, R52, R53). -/
def Obligations.CounterFieldWrites : Prop :=
  ∀ (c : CyclePhase) (w : Word) (k : Fin 32) (f : CounterField) (s : State), s.takes c (.write 0x08 w) = true →
    s.selected = some (.counter k f) →
    let v : Latch := s.host.commitValue w
    let x : Counter := s.counter k
    let unlocked : Prop := ∀ g : Fin 8, x.group = some g → (s.group g).state = .idle
    let answers (r : ResultCode) : Prop := exec (.counterFieldWrite c w) s = .next (s.committed c w r)
    let takes (x' : Counter) : Prop := exec (.counterFieldWrite c w) s = .next
      (State.committed (s.modifyCounter k fun _ => { x' with inside := false }) c w .ok)
    (f ∈ [.inside, .wrapped, .stale] → answers .readonly) ∧
    (f ∈ [.enabled, .source, .mode, .bandLow, .bandHigh, .overflowCapture] → ¬unlocked → answers .locked) ∧
    (unlocked →
      (f = .enabled → ∀ b : Bool, v = bit48 b → takes { x with enabled := b }) ∧
      (f = .enabled ∨ f = .overflowCapture → 1 < v.toNat → answers .range) ∧
      (f = .overflowCapture → ∀ b : Bool, v = bit48 b → takes { x with overflowCapture := b }) ∧
      (f = .source → ∀ src : Source, v = num (sourceCode src) →
        (src ≠ .overflow k → takes { x with source := src }) ∧ (src = .overflow k → answers .range)) ∧
      (f = .source → (∀ src : Source, v ≠ num (sourceCode src)) → answers .range) ∧
      (f = .mode → ∀ m : Mode, v = modeCode m → takes { x with mode := m }) ∧
      (f = .mode → 3 < v.toNat → answers .range) ∧
      (f = .bandLow → v.toNat ≤ x.bandHigh.toNat → takes { x with bandLow := v.setWidth 12 }) ∧
      (f = .bandLow → x.bandHigh.toNat < v.toNat → answers .range) ∧
      (f = .bandHigh → x.bandLow.toNat ≤ v.toNat → v.toNat ≤ 4095 → takes { x with bandHigh := v.setWidth 12 }) ∧
      (f = .bandHigh → v.toNat < x.bandLow.toNat ∨ 4095 < v.toNat → answers .range))

/-- A write of a counter's group: LOCKED unless both groups are NONE or IDLE, RANGE for a value that names neither a group nor
NONE, FULL where the other group has eight members, and else the counter moves (R54). -/
def Obligations.CounterGroupWrites : Prop :=
  ∀ (c : CyclePhase) (w : Word) (k : Fin 32) (s : State), s.takes c (.write 0x08 w) = true →
    s.selected = some (.counter k .group) →
    let v : Latch := s.host.commitValue w
    let x : Counter := s.counter k
    let unlocked : Prop := ∀ g : Fin 8, x.group = some g ∨ v = num g.val → (s.group g).state = .idle
    let answers (r : ResultCode) : Prop := exec (.counterGroupWrite c w) s = .next (s.committed c w r)
    let takes (n : Option (Fin 8)) : Prop := exec (.counterGroupWrite c w) s = .next
      (State.committed (s.modifyCounter k fun y => { y with group := n, inside := false }) c w .ok)
    (¬unlocked → answers .locked) ∧
    (unlocked → 7 < v.toNat → v.toNat ≠ 15 → answers .range) ∧
    (unlocked → v.toNat = 15 → takes none) ∧
    (∀ g : Fin 8, unlocked → v = num g.val → x.group ≠ some g → 8 ≤ (s.members g).length → answers .full) ∧
    (∀ g : Fin 8, unlocked → v = num g.val → x.group = some g ∨ (s.members g).length < 8 → takes (some g))

/-- A write of a counter's value or preset: LOCKED in RUNNING and STALLED, RANGE where bits 47 to 40 are not 0, and else the
field takes the number and nothing else changes (R51, R56). -/
def Obligations.ValuePresetWrites : Prop :=
  ∀ (c : CyclePhase) (w : Word) (k : Fin 32) (f : CounterField) (s : State), s.takes c (.write 0x08 w) = true →
    s.selected = some (.counter k f) → f = .value ∨ f = .preset →
    let v : Latch := s.host.commitValue w
    let unlocked : Prop :=
      ∀ g : Fin 8, (s.counter k).group = some g → (s.group g).state = .idle ∨ (s.group g).state = .held
    (¬unlocked → exec (.valuePresetWrite c w) s = .next (s.committed c w .locked)) ∧
    (unlocked → 2 ^ 40 ≤ v.toNat → exec (.valuePresetWrite c w) s = .next (s.committed c w .range)) ∧
    (unlocked → v.toNat < 2 ^ 40 → exec (.valuePresetWrite c w) s = .next
      (State.committed (s.modifyCounter k fun x =>
        if f = .value then { x with value := v.setWidth 40 } else { x with preset := v.setWidth 40 }) c w .ok))

/-- Writes of table GROUP: ten fields READONLY, the five configuration fields LOCKED unless IDLE, then RANGE by the field
(R79, R80). -/
def Obligations.GroupFieldWrites : Prop :=
  ∀ (c : CyclePhase) (w : Word) (g : Fin 8) (f : GroupField) (s : State), s.takes c (.write 0x08 w) = true →
    s.selected = some (.group g f) →
    let v : Latch := s.host.commitValue w
    let x : Group := s.group g
    let answers (r : ResultCode) : Prop := exec (.groupFieldWrite c w) s = .next (s.committed c w r)
    let takes (x' : Group) : Prop := exec (.groupFieldWrite c w) s = .next
      (State.committed (s.modifyGroup g fun _ => x') c w .ok)
    (f ∉ [.policy, .holdAfter, .reloadAfter, .period, .chainNext] → answers .readonly) ∧
    (f ∈ [.policy, .holdAfter, .reloadAfter, .period, .chainNext] → x.state ≠ .idle → answers .locked) ∧
    (x.state = .idle →
      (f = .policy ∨ f = .holdAfter ∨ f = .reloadAfter → 1 < v.toNat → answers .range) ∧
      (f = .policy → v.toNat = 0 → takes { x with policy := .wait }) ∧
      (f = .policy → v.toNat = 1 → takes { x with policy := .drop }) ∧
      (f = .holdAfter → ∀ b : Bool, v = bit48 b → takes { x with holdAfter := b }) ∧
      (f = .reloadAfter → ∀ b : Bool, v = bit48 b → takes { x with reloadAfter := b }) ∧
      (f = .period → 65535 < v.toNat → answers .range) ∧
      (f = .period → v.toNat ≤ 65535 → takes { x with period := v.setWidth 16 }) ∧
      (f = .chainNext → (7 < v.toNat ∧ v.toNat ≠ 15) ∨ v = num g.val → answers .range) ∧
      (f = .chainNext → v.toNat = 15 → takes { x with chainNext := none }) ∧
      (f = .chainNext → ∀ h : Fin 8, h ≠ g → v = num h.val → takes { x with chainNext := some h }))

/-! ## The Snapshot Queue -/

/-- A draft that finds no draft waiting and fits both bounds of the store becomes a record at the tail at once, with the next
sequence number, no placement epoch, a TAKEN answer, and its status events, LEVEL before OVFREC (R123 to R128, R142, R143). -/
def Obligations.DraftPlacedAtOnce : Prop :=
  ∀ (d : Draft) (rest : List DraftMessage) (s : State), s.mode = .running → s.paths.draftPath = .draft d :: rest →
    s.queue.waitList = [] → s.queue.records.length < 64 → s.queue.valueUse + d.entries.length ≤ 256 →
    ∃ t : State, exec .draft s = .next t ∧ t = { s with queue := t.queue, paths := t.paths } ∧
      t.queue = { s.queue with
        records := s.queue.records ++ [⟨d.group, d.cause, d.chainTag, d.captureEpoch, d.entries, s.queue.sequence, none⟩]
        valueUse := s.queue.valueUse + d.entries.length
        sequence := s.queue.sequence + 1
        placed := t.queue.placed } ∧
      t.queue.placed[d.group] = s.queue.placed[d.group] + 1 ∧
      (∀ g : Fin 8, g ≠ d.group → t.queue.placed[g] = s.queue.placed[g]) ∧
      t.paths = { s.paths with
        draftPath := rest
        answers := s.paths.answers ++ [⟨.taken, d.group⟩]
        fromQueue := s.paths.fromQueue ++
          (if s.queue.watermark.toNat ≤ s.queue.records.length + 1 then [.status .level] else []) ++
          (if d.cause.overflowSet?.isSome then [.status .ovfrec] else []) }

/-- A draft that cannot be placed at once waits at the tail of the wait list under WAIT, and under DROP is discarded with one
sequence number and a DROPPED report (R127, R129, R130). -/
def Obligations.DraftWaitsOrIsRefused : Prop :=
  ∀ (d : Draft) (rest : List DraftMessage) (s : State), s.mode = .running → s.paths.draftPath = .draft d :: rest →
    s.queue.waitList ≠ [] ∨ 64 ≤ s.queue.records.length ∨ 256 < s.queue.valueUse + d.entries.length →
    (d.policy = .wait → exec .draft s = .next
      { s with
        queue := { s.queue with waitList := s.queue.waitList ++ [d] }
        paths := { s.paths with
          draftPath := rest
          answers := s.paths.answers ++ [⟨.waiting, d.group⟩]
          fromQueue := s.paths.fromQueue ++ [.status .wait] } }) ∧
    (d.policy = .drop → ∃ t : State, exec .draft s = .next t ∧ t = { s with queue := t.queue, paths := t.paths } ∧
      t.queue = { s.queue with sequence := s.queue.sequence + 1, dropped := t.queue.dropped } ∧
      t.queue.dropped[d.group] = satInc s.queue.dropped[d.group] ∧
      (∀ g : Fin 8, g ≠ d.group → t.queue.dropped[g] = s.queue.dropped[g]) ∧
      t.paths = { s.paths with
        draftPath := rest
        answers := s.paths.answers ++ [⟨.refused, d.group⟩]
        fromQueue := s.paths.fromQueue ++ [.error .dropped (some d.group)] })

/-- The grant step places the longest run of waiting drafts, from the head, each of which fits after the ones before it: in
order, with consecutive sequence numbers, the epoch as placement epoch, a PLACED answer each, and its status events, LEVEL by the
record count after the placement and then OVFREC (R132, R133, R142, R143). -/
def Obligations.GrantStepPlacesInOrder : Prop :=
  ∀ s : State,
    let ds : List Draft := grantable s.queue s.queue.waitList
    let t : State := grantStep s
    t = { s with queue := t.queue, paths := t.paths } ∧
    t.queue.records = s.queue.records ++ (ds.zipIdx.map fun d =>
      ⟨d.1.group, d.1.cause, d.1.chainTag, d.1.captureEpoch, d.1.entries, s.queue.sequence + BitVec.ofNat 16 d.2,
        some s.timebase.epoch⟩) ∧
    t.queue.valueUse = s.queue.valueUse + (ds.map (·.entries.length)).sum ∧
    t.queue.waitList = s.queue.waitList.drop ds.length ∧
    t.queue.sequence = s.queue.sequence + BitVec.ofNat 16 ds.length ∧
    (∀ g : Fin 8, t.queue.placed[g] = s.queue.placed[g] + BitVec.ofNat 16 (ds.countP fun d => decide (d.group = g))) ∧
    t.queue.watermark = s.queue.watermark ∧ t.queue.dropped = s.queue.dropped ∧ t.queue.abandoned = s.queue.abandoned ∧
    t.paths.answers = s.paths.answers ++ ds.map (fun d => ⟨.placed, d.group⟩) ∧
    t.paths.fromQueue = s.paths.fromQueue ++ ds.zipIdx.flatMap (fun d =>
      (if s.queue.watermark.toNat ≤ s.queue.records.length + d.2 + 1 then [.status .level] else []) ++
        (if d.1.cause.overflowSet?.isSome then [.status .ovfrec] else [])) ∧
    t.paths = { s.paths with answers := t.paths.answers, fromQueue := t.paths.fromQueue } ∧
    ∀ d : Draft, (s.queue.waitList.drop ds.length).head? = some d →
      t.queue.records.length = 64 ∨ 256 < t.queue.valueUse + d.entries.length ∨ 64 < t.queue.records.length

/-- A WITHDRAW removes its group's waiting draft, wherever it stands, with one sequence number and an ABANDONED answer, and
the grant step then runs; with no such draft it is ignored (R134). -/
def Obligations.WithdrawAbandonsWaitingDraft : Prop :=
  ∀ (g : Fin 8) (rest : List DraftMessage) (s : State), s.mode = .running → s.paths.draftPath = .withdraw g :: rest →
    let p : State := { s with paths := { s.paths with draftPath := rest } }
    ((∀ d ∈ s.queue.waitList, d.group ≠ g) → exec .withdraw s = .next p) ∧
    ∀ (front back : List Draft) (d : Draft), s.queue.waitList = front ++ d :: back → d.group = g →
      (∀ x ∈ front, x.group ≠ g) →
      ∃ q : Queue, q = { s.queue with
          waitList := front ++ back, sequence := s.queue.sequence + 1, abandoned := q.abandoned } ∧
        q.abandoned[g] = satInc s.queue.abandoned[g] ∧ (∀ h : Fin 8, h ≠ g → q.abandoned[h] = s.queue.abandoned[h]) ∧
        exec .withdraw s = .next (grantStep { p with
          queue := q, paths := { p.paths with answers := p.paths.answers ++ [⟨.abandoned, g⟩] } })

/-- QUEUE RELEASE removes the head record and runs the grant step, or is refused with EMPTY; QUEUE FLUSH removes every record and
runs the grant step, which then places every draft of a wait list of at most eight (R139, R140). -/
def Obligations.ReleaseAndFlush : Prop :=
  (∀ (c : CyclePhase) (op : BitVec 8) (s : State),
      (s.takes c (.write 0x04 (cmdWord 0x10 op)) = true →
        (s.queue.records = [] → exec (.queueRelease c op) s = .next (s.answered c .empty)) ∧
        ∀ (r : Record) (rs : List Record), s.queue.records = r :: rs → exec (.queueRelease c op) s = .next
          (State.answered (grantStep { s with queue :=
            { s.queue with records := rs, valueUse := s.queue.valueUse - r.entries.length } }) c .ok)) ∧
      (s.takes c (.write 0x04 (cmdWord 0x11 op)) = true → exec (.queueFlush c op) s = .next
        (State.answered (grantStep { s with queue := { s.queue with records := [], valueUse := 0 } }) c .ok))) ∧
  (∀ q : Queue, q.records = [] → q.valueUse = 0 → q.waitList.length ≤ 8 → (∀ d ∈ q.waitList, d.entries.length ≤ 8) →
      grantable q q.waitList = q.waitList)

/-- The watermark takes any number from 1 to 64, judged on the whole word, and ignores every other with RANGE (R141). -/
def Obligations.WatermarkWrites : Prop :=
  ∀ (c : CyclePhase) (w : Word) (s : State), s.takes c (.write 0x0C w) = true →
    (1 ≤ w.toNat → w.toNat ≤ 64 → exec (.watermarkWrite c w) s = .next
      (State.answered { s with queue := { s.queue with watermark := w } } c .ok)) ∧
    (w.toNat = 0 ∨ 64 < w.toNat → exec (.watermarkWrite c w) s = .next (s.answered c .range))

/-! ## The Event Controller -/

/-- Each path into the Event Controller delivers its oldest message (R147); an error report there is the first of its class, kept
with the epoch of its taking, or adds one to further errors and leaves the first error and IRQn as they were (R148 to R150,
R157). -/
def Obligations.ErrorReportsAreKept : Prop :=
  (∀ (r : Reporter) (kind : ErrorKind) (subject : Option (Fin 8)) (p s : State), s.mode = .running →
      frontNotice r s = some (.error kind subject, p) →
      ∃ e : EventController, exec (.errorReport r) s = .next { p with events := e } ∧
        e.enables = s.events.enables ∧ (∀ f : StatusFlag, e.isSet f = s.events.isSet f) ∧
        (∀ c : ErrorClass, c ≠ kind.errorClass → e.classRecord c = s.events.classRecord c) ∧
        (s.events.classRecord kind.errorClass = .clear →
          e.classRecord kind.errorClass = .detected ⟨kind, subject, s.timebase.epoch⟩ 0 ∧ e.irq = e.wantsIrq) ∧
        ∀ (first : FirstError) (further : BitVec 8), s.events.classRecord kind.errorClass = .detected first further →
          e.classRecord kind.errorClass = .detected first (satInc further) ∧ e.irq = s.events.irq) ∧
  (∀ (m : Notice) (rest : List Notice) (s : State),
      (s.paths.fromReceiver = m :: rest →
        frontNotice .receiver s = some (m, { s with paths := { s.paths with fromReceiver := rest } })) ∧
      (s.paths.fromEngine = m :: rest →
        frontNotice .engine s = some (m, { s with paths := { s.paths with fromEngine := rest } })) ∧
      (s.paths.fromQueue = m :: rest →
        frontNotice .queue s = some (m, { s with paths := { s.paths with fromQueue := rest } })))

/-- A status event at the front of its path sets its flag and judges IRQn; one that finds the flag set leaves no trace
(R152, R157). -/
def Obligations.StatusEventsSetFlags : Prop :=
  ∀ (r : Reporter) (f : StatusFlag) (p s : State), s.mode = .running → frontNotice r s = some (.status f, p) →
    (s.events.isSet f = true → exec (.statusEvent r) s = .next p) ∧
    (s.events.isSet f = false → ∃ e : EventController, exec (.statusEvent r) s = .next { p with events := e } ∧
      (∀ f' : StatusFlag, e.isSet f' = (decide (f' = f) || s.events.isSet f')) ∧
      (∀ c : ErrorClass, e.classRecord c = s.events.classRecord c) ∧ e.enables = s.events.enables ∧ e.irq = e.wantsIrq)

/-- IRQSTAT clears the flags written 1, a class flag with its whole record, and IRQEN sets the seven enables; each judges
IRQn, and leaves RESULT (R154, R156, R157, R162). -/
def Obligations.InterruptRegisterWrites : Prop :=
  ∀ (c : CyclePhase) (w : Word) (s : State),
    (s.takes c (.write 0x02 w) = true → ∃ e : EventController,
      exec (.irqstatWrite c w) s = .next (State.written { s with events := e } c) ∧
      e.flags = s.events.flags &&& ~~~ w.setWidth 7 ∧ e.enables = s.events.enables ∧
      e.irq = decide (e.flags &&& e.enables ≠ 0) ∧
      ∀ k : ErrorClass, e.classRecord k =
        if w.getLsbD (match k with | .link => 4 | .loss => 5 | .chain => 6) then .clear else s.events.classRecord k) ∧
    (s.takes c (.write 0x03 w) = true → exec (.irqenWrite c w) s = .next
      (State.written { s with events := { s.events with
        enables := w.setWidth 7, irq := decide (s.events.flags &&& w.setWidth 7 ≠ 0) } } c))

/-! ## The Host Port -/

/-- A read of TDATA0 fetches the selected field afresh: the three latches take its 48 bits, ABSENT and RESULT take the owner's
answer, the read drives the low word, and a selection that names no field is answered RANGE with the latches 0 (R165, R166).
What TSEL and TFIELD select (R169 to R172), and what each field of each table reads as: its number, or absent, and EMPTY from an
empty store and RANGE from a HEADVALUE position beyond the head record (R25, R63, R64, R136, R137, R151, R170 to R172). -/
def Obligations.TableFetch : Prop :=
  (∀ (c : CyclePhase) (s : State), s.takes c (.read 0x08) = true →
      let x : Fetched := fetch s s.selected
      ∃ t : State, exec (.tableFetch c 0x08) s = .next t ∧
        t = { s with host := t.host, bus := s.busAfter c (some t.host.latchLow) } ∧
        t.host.latchHigh ++ t.host.latchMid ++ t.host.latchLow = x.value ∧ t.host.absent = x.absent ∧
        t.host.result = x.code ∧ t.host.tsel = s.host.tsel ∧ t.host.tfield = s.host.tfield ∧
        (s.selected = none → x = ⟨0, false, .range⟩) ∧ (x.absent = true → x = ⟨0, true, .ok⟩)) ∧
  (let names (table index : Nat) (fields : List Selection) : Prop :=
      ∀ f : Fin 256, selection (BitVec.ofNat 16 (256 * table + index)) (BitVec.ofNat 8 f.val) = fields[f.val]?;
    (∀ k : Fin 32, names 0 k.val ([.enabled, .group, .source, .mode, .bandLow, .bandHigh, .overflowCapture, .value, .preset,
      .inside, .wrapped, .stale].map (.counter k))) ∧
    (∀ g : Fin 8, names 1 g.val ([.state, .returnState, .members, .policy, .holdAfter, .reloadAfter, .period, .countdown,
      .chainNext, .outstanding, .missed, .lost, .placed, .dropped, .abandoned].map (.group g))) ∧
    (∀ a : Fin 8, names 2 a.val ([.enabled, .state, .expected, .silenceLimit, .silenceElapsed, .accepted, .missed,
      .timesLost].map (.agent a))) ∧
    names 3 0 ([.enabled, .checkErrors, .framingErrors, .unexpected].map .receiver) ∧
    names 4 0 ([.state, .periodCode, .epoch].map .timebase) ∧
    (∀ n : Fin 16, names 5 n.val ([.enabled, .edge, .level].map (.line n))) ∧
    (∀ c : ErrorClass, names 6 (match c with | .link => 0 | .loss => 1 | .chain => 2)
      ([.detected, .firstKind, .firstSubject, .firstEpoch, .further].map (.error c))) ∧
    names 7 0 ([.recordCount, .queueValues, .waiting, .sequence, .group, .cause, .overflowSet, .chainOrigin, .hop, .chainTag,
      .captureEpoch, .placementEpoch, .valueCount].map .head) ∧
    (∀ p : Fin 8, names 8 p.val ([.counter, .value, .wrapped, .stale].map (.headValue p))) ∧
    ∀ table index : Nat, index < 256 → table < 256 → [32, 8, 8, 1, 1, 16, 3, 1, 8].getD table 0 ≤ index →
      names table index []) ∧
  (∀ s : State,
    let reads (field : Selection) (v : Latch) : Prop := fetch s (some field) = ⟨v, false, .ok⟩
    let absent (field : Selection) : Prop := fetch s (some field) = ⟨0, true, .ok⟩
    let n (x : Nat) : Latch := BitVec.ofNat 48 x
    let yesNo (b : Bool) : Latch := if b then 1 else 0
    let orNone (g : Option (Fin 8)) : Latch := match g with | some g => n g.val | none => 15
    (∀ k : Fin 32,
      let c : Counter := s.counter k
      reads (.counter k .enabled) (yesNo c.enabled) ∧ reads (.counter k .group) (orNone c.group) ∧
      reads (.counter k .source) (n (match c.source with
        | .none => 0x00 | .line l => 0x01 + l.val | .channel a ch => 0x20 + 4 * a.val + ch.val | .tick => 0x40
        | .overflow j => 0x60 + j.val | .placed g => 0x80 + g.val)) ∧
      reads (.counter k .mode) (match c.mode with | .sum => 0 | .inBand => 1 | .outBand => 2 | .enterBand => 3) ∧
      reads (.counter k .bandLow) (c.bandLow.setWidth 48) ∧ reads (.counter k .bandHigh) (c.bandHigh.setWidth 48) ∧
      reads (.counter k .overflowCapture) (yesNo c.overflowCapture) ∧ reads (.counter k .value) (c.value.setWidth 48) ∧
      reads (.counter k .preset) (c.preset.setWidth 48) ∧ reads (.counter k .inside) (yesNo c.inside) ∧
      reads (.counter k .wrapped) (yesNo c.wrapped) ∧ reads (.counter k .stale) (yesNo c.stale)) ∧
    (∀ g : Fin 8,
      let x : Group := s.group g
      reads (.group g .state) (match x.state with | .idle => 0 | .running => 1 | .held => 2 | .stalled _ => 3) ∧
      (∀ back : ReturnState, x.state = .stalled back →
        reads (.group g .returnState) (match back with | .running => 1 | .held => 2)) ∧
      (x.state.isStalled = false → absent (.group g .returnState)) ∧
      (∀ k : Fin 32, ((fetch s (some (.group g .members))).value.getLsbD k.val = true ↔ (s.counter k).group = some g)) ∧
      ((fetch s (some (.group g .members))).value.extractLsb' 32 4).toNat = (s.members g).length % 16 ∧
      (fetch s (some (.group g .members))).absent = false ∧ (fetch s (some (.group g .members))).code = .ok ∧
      reads (.group g .policy) (match x.policy with | .wait => 0 | .drop => 1) ∧
      reads (.group g .holdAfter) (yesNo x.holdAfter) ∧ reads (.group g .reloadAfter) (yesNo x.reloadAfter) ∧
      reads (.group g .period) (x.period.setWidth 48) ∧ reads (.group g .countdown) (x.countdown.setWidth 48) ∧
      reads (.group g .chainNext) (orNone x.chainNext) ∧ reads (.group g .outstanding) (yesNo x.outstanding) ∧
      reads (.group g .missed) (x.missed.setWidth 48) ∧ reads (.group g .lost) (x.lost.setWidth 48) ∧
      reads (.group g .placed) (s.queue.placed[g].setWidth 48) ∧
      reads (.group g .dropped) (s.queue.dropped[g].setWidth 48) ∧
      reads (.group g .abandoned) (s.queue.abandoned[g].setWidth 48)) ∧
    (∀ a : Fin 8,
      let r : Agent := s.agent a
      reads (.agent a .enabled) (yesNo r.enabled) ∧
      reads (.agent a .state) (match r.state with | .silent => 0 | .active _ => 1 | .lost => 2) ∧
      (∀ e : BitVec 4, r.state = .active e → reads (.agent a .expected) (e.setWidth 48)) ∧
      (r.state = .silent ∨ r.state = .lost → absent (.agent a .expected)) ∧
      reads (.agent a .silenceLimit) (r.silenceLimit.setWidth 48) ∧
      reads (.agent a .silenceElapsed) (r.silenceElapsed.setWidth 48) ∧
      reads (.agent a .accepted) (r.accepted.setWidth 48) ∧ reads (.agent a .missed) (r.missed.setWidth 48) ∧
      reads (.agent a .timesLost) (r.timesLost.setWidth 48)) ∧
    (reads (.receiver .enabled) (yesNo s.receiver.enabled) ∧
      reads (.receiver .checkErrors) (s.receiver.checkErrors.setWidth 48) ∧
      reads (.receiver .framingErrors) (s.receiver.framingErrors.setWidth 48) ∧
      reads (.receiver .unexpected) (s.receiver.unexpected.setWidth 48)) ∧
    (reads (.timebase .state) (yesNo (decide (s.timebase.state ≠ .stopped))) ∧
      reads (.timebase .periodCode) (s.timebase.periodCode.setWidth 48) ∧ reads (.timebase .epoch) s.timebase.epoch) ∧
    (∀ l : Fin 16,
      reads (.line l .enabled) (yesNo (s.line l).enabled) ∧
      reads (.line l .edge) (match (s.line l).edge with | .rising => 0 | .falling => 1 | .both => 2) ∧
      reads (.line l .level) (yesNo (s.line l).level)) ∧
    (∀ c : ErrorClass,
      (s.events.classRecord c = .clear →
        reads (.error c .detected) 0 ∧ absent (.error c .firstKind) ∧ absent (.error c .firstSubject) ∧
          absent (.error c .firstEpoch) ∧ reads (.error c .further) 0) ∧
      ∀ (first : FirstError) (further : BitVec 8), s.events.classRecord c = .detected first further →
        reads (.error c .detected) 1 ∧
        reads (.error c .firstKind) (match first.kind with
          | .check => 1 | .framing => 2 | .unexpected => 3 | .seqGap => 4 | .dropped => 5 | .missed => 6 | .stallLoss => 7
          | .loop => 8 | .idleTarget => 9) ∧
        (first.subject = none → absent (.error c .firstSubject)) ∧
        (∀ x : Fin 8, first.subject = some x → reads (.error c .firstSubject) (n x.val)) ∧
        reads (.error c .firstEpoch) first.epoch ∧ reads (.error c .further) (further.setWidth 48)) ∧
    (s.queue.records = [] → ∀ (f : HeadField) (p : Fin 8) (v : HeadValueField),
      fetch s (some (.head f)) = ⟨0, false, .empty⟩ ∧ fetch s (some (.headValue p v)) = ⟨0, false, .empty⟩) ∧
    ∀ (r : Record) (rs : List Record), s.queue.records = r :: rs →
      (reads (.head .recordCount) (n (rs.length + 1)) ∧ reads (.head .queueValues) (n s.queue.valueUse) ∧
        reads (.head .waiting) (n s.queue.waitList.length) ∧ reads (.head .sequence) (r.sequence.setWidth 48) ∧
        reads (.head .group) (n r.group.val) ∧
        reads (.head .cause) (match r.cause with | .host => 0 | .periodic => 1 | .overflow _ => 2 | .chain _ _ => 3) ∧
        (∀ set : CounterSet, r.cause = .overflow set → reads (.head .overflowSet) (set.setWidth 48)) ∧
        ((∀ set : CounterSet, r.cause ≠ .overflow set) → absent (.head .overflowSet)) ∧
        (∀ (o : Fin 8) (hop : Nat), r.cause = .chain o hop →
          reads (.head .chainOrigin) (n o.val) ∧ reads (.head .hop) (n hop)) ∧
        ((∀ (o : Fin 8) (hop : Nat), r.cause ≠ .chain o hop) → absent (.head .chainOrigin) ∧ absent (.head .hop)) ∧
        (∀ tag : BitVec 8, r.chainTag = some tag → reads (.head .chainTag) (tag.setWidth 48)) ∧
        (r.chainTag = none → absent (.head .chainTag)) ∧ reads (.head .captureEpoch) r.captureEpoch ∧
        (∀ e : Epoch, r.placementEpoch = some e → reads (.head .placementEpoch) e) ∧
        (r.placementEpoch = none → absent (.head .placementEpoch)) ∧ reads (.head .valueCount) (n r.entries.length)) ∧
      ∀ p : Fin 8,
        (r.entries.length ≤ p.val → ∀ v : HeadValueField, fetch s (some (.headValue p v)) = ⟨0, false, .range⟩) ∧
        ∀ e : Entry, r.entries[p.val]? = some e →
          reads (.headValue p .counter) (n e.counter.val) ∧ reads (.headValue p .value) (e.value.setWidth 48) ∧
            reads (.headValue p .wrapped) (yesNo e.wrapped) ∧ reads (.headValue p .stale) (yesNo e.stale))

/-- Accesses answered without a change in any block: a code or an operand of no command, and commits to read-only tables and
fields and to no field at all (R8, R163, R168, R169, R172). -/
def Obligations.RefusedAccesses : Prop :=
  ∀ (c : CyclePhase) (w : Word) (s : State),
    (s.takes c (.write 0x04 w) = true → unknownWord w = true → exec (.unknownCommand c w) s = .next (s.answered c .unknown)) ∧
    (s.takes c (.write 0x04 w) = true → groupRangeWord w = true →
      exec (.groupOperandRange c w) s = .next (s.answered c .range)) ∧
    (s.takes c (.write 0x08 w) = true →
      (s.selected = none → exec (.tableCommitRange c w) s = .next (s.committed c w .range)) ∧
      (∀ (k : ErrorClass) (f : ErrorField), s.selected = some (.error k f) →
        exec (.readOnlyTableWrite c w) s = .next (s.committed c w .readonly)) ∧
      (∀ f : HeadField, s.selected = some (.head f) →
        exec (.readOnlyTableWrite c w) s = .next (s.committed c w .readonly)) ∧
      (∀ (p : Fin 8) (f : HeadValueField), s.selected = some (.headValue p f) →
        exec (.readOnlyTableWrite c w) s = .next (s.committed c w .readonly)) ∧
      (∀ (a : Fin 8) (f : AgentField), s.selected = some (.agent a f) → f ≠ .enabled → f ≠ .silenceLimit →
        exec (.readonlyFieldWrite c w) s = .next (s.committed c w .readonly)) ∧
      (s.selected = some (.timebase .state) → exec (.readonlyFieldWrite c w) s = .next (s.committed c w .readonly)))

/-- Writes of TSEL, TFIELD, TDATA1 and TDATA2 store the word, a write of a read-only register is ignored, and RESULT stays
(R160, R165, R167). -/
def Obligations.PlainRegisterWrites : Prop :=
  ∀ (c : CyclePhase) (offset : BitVec 6) (w : Word) (s : State), s.takes c (.write offset w) = true →
    let writes (h : HostPort) : Prop := exec (.registerWrite c offset w) s = .next (State.written { s with host := h } c)
    (offset = 0x06 → writes { s.host with tsel := w }) ∧
    (offset = 0x07 → writes { s.host with tfield := w.setWidth 8 }) ∧
    (offset = 0x09 → writes { s.host with latchMid := w }) ∧
    (offset = 0x0A → writes { s.host with latchHigh := w }) ∧
    (offset = 0x00 ∨ offset = 0x01 ∨ offset = 0x05 ∨ offset = 0x0B ∨ 0x0D ≤ offset.toNat → writes s.host)

/-! ## Resets -/

/-- A device reset puts every block at its reset values and discards every message in flight. DEVICE RESET takes the levels
present as the first recognised levels and ends its own cycle with RESULT 0 (R173, R174); RESETn and power-up abandon the bus
cycle and hold the part; after RESETn has returned high, recovery begins, and at its end the part runs with the levels present
and passes on a cycle begun in it, or, with none, leaves the bus as it is (R175). The model's own: that cycles held behind a
DEVICE RESET are kept and the oldest of several is passed on (log entry 13), the two phases of RESET_RECOVERY_END (14), and the
levels as an operand (18). -/
def Obligations.DeviceResets : Prop :=
  (∀ (c : CyclePhase) (op : BitVec 8) (levels : Word) (s : State), s.takes c (.write 0x04 (cmdWord 0x4F op)) = true →
      ∃ t : State, exec (.deviceReset c op levels) s = .next t ∧
        t = { State.reset with
          lines := t.lines, bus := s.busAfter c none, mode := s.mode, freeCount := s.freeCount, pending := s.pending } ∧
        ∀ n : Fin 16, t.line n = ⟨false, .rising, levels.getLsbD n.val⟩) ∧
  ((∀ (i : Instr) (s : State), i = .resetnAsserted ∨ i = .powerUp →
        ∃ t : State, exec i s = .next t ∧ t.rdyn = .released ∧
          t = { State.reset with lines := t.lines, mode := .resetting, freeCount := s.freeCount, pending := s.pending } ∧
          ∀ n : Fin 16, t.line n = ⟨false, .rising, (s.line n).level⟩) ∧
      (∀ s : State, s.mode = .resetting →
        s.rdyn = .released ∧ exec (.resetRecoveryEnd .begun) s = .next { s with mode := .recovering }) ∧
      ∀ (levels : Word) (s : State), s.mode = .recovering →
        ∃ t : State, exec (.resetRecoveryEnd (.ended levels)) s = .next t ∧
          t = { s with lines := t.lines, mode := .running, bus := t.bus } ∧
          (∀ n : Fin 16, t.line n = { s.line n with level := levels.getLsbD n.val }) ∧
          (s.bus.held = [] ∨ s.bus.unanswered ≠ none → t.bus = s.bus) ∧
          ∀ (x : BusCycle) (rest : List BusCycle), s.bus.unanswered = none → s.bus.held = x :: rest →
            t.bus = { s.bus with unanswered := some x, held := rest })

/-- While RESETn is low every access, edge, tick and message is ignored, and in recovery no command or event changes a block: a
cycle that begins is held, RDYn follows CSn, and the rest leaves no trace (R175). New resets and the two ends of the recovery
time are apart. That an event which comes then leaves the state as it is, is the model's (log entry 2), and so is the row that
begins recovery (log entry 14). -/
def Obligations.NothingHappensInReset : Prop :=
  ∀ (i : Instr) (s : State), (∀ c : RecoveryPhase, i ≠ .resetRecoveryEnd c) → i ≠ .resetnAsserted → i ≠ .powerUp →
    (s.mode = .resetting → exec i s = .next s) ∧
    (s.mode = .recovering → ∃ b : Bus, exec i s = .next { s with bus := b })

/-! ## What every step keeps -/

/-- The invariants hold after reset. -/
def Obligations.InvariantsHoldAtReset : Prop :=
  State.reset.queue.Sound ∧ State.reset.EightAtMost ∧ State.reset.ProtocolSound ∧ State.reset.ChainsSound ∧
    State.reset.LinkSound ∧ State.reset.IrqSound ∧ State.reset.BandsSound ∧ State.reset.NoSelfReference ∧
    State.reset.bus.Sound ∧ State.reset.CountdownsSound

/-- The store keeps both bounds, its value use and its watermark, no store is empty while a draft waits, and no group, draft or
record passes eight entries (R55, R122, R123, R141). -/
def Obligations.StoreSoundIsKept : Prop :=
  ∀ s t : State, s.queue.Sound ∧ s.EightAtMost → step s = .next t → t.queue.Sound ∧ t.EightAtMost

/-- Every draft sent gets exactly one final answer, at most one draft of a group is outstanding, and the answers meet their
groups in the states that the manual says they can meet (R65, R74, R100, R102 to R106, R131, R145). -/
def Obligations.DraftProtocolIsKept : Prop := ∀ s t : State, s.ProtocolSound → step s = .next t → t.ProtocolSound

/-- A chain never visits a group twice, its hop is the number of groups visited, 1 to 7, and no group is its own chain next
(R80, R109, R112 to R115). -/
def Obligations.ChainRequestsStaySound : Prop := ∀ s t : State, s.ChainsSound → step s = .next t → t.ChainsSound

/-- The receiver is OFF exactly while it is disabled, and a disabled agent is SILENT (section 2.2, R24, R25); IRQn is asserted
exactly while at least one flag is set whose enable is set (R157); band low is never above band high, and no counter counts its
own overflow (R44, R52). -/
def Obligations.BlockConditionsAreKept : Prop :=
  (∀ s t : State, s.LinkSound → step s = .next t → t.LinkSound) ∧
  (∀ s t : State, s.IrqSound → step s = .next t → t.IrqSound) ∧
  (∀ s t : State, s.BandsSound ∧ s.NoSelfReference → step s = .next t → t.BandsSound ∧ t.NoSelfReference)

/-- The bus: a cycle is unanswered or held exactly in PENDING, only the latest may have its strobe low, and data is driven in
DONE alone (section 9.2, R158, R159). -/
def Obligations.BusStaysSound : Prop := ∀ s t : State, s.bus.Sound → step s = .next t → t.bus.Sound

/-- A countdown in service stands between 1 and the period (R67, R75), and the members of a group stay the same while it is in
service (R55). -/
def Obligations.ServiceConditionsAreKept : Prop :=
  (∀ s t : State, s.CountdownsSound → step s = .next t → t.CountdownsSound) ∧
  (∀ (s t : State) (g : Fin 8), step s = .next t → (s.group g).state ≠ .idle → (t.group g).state ≠ .idle →
      t.members g = s.members g)
end

