-- ==== Sys2Proof/Laws/State.lean ====
section
/-! SUPPORT. The small lemmas of the state's named updates: what each leaves alone and what it changes, true by rfl, and the
record that each update leaves at each number. -/

namespace Sys2Proof.Machine

variable (s : State)

/-! ### State.sendLine -/

@[simp] theorem State.sendLine_timebase (n : Fin 16) : (s.sendLine n).timebase = s.timebase := rfl
@[simp] theorem State.sendLine_lines (n : Fin 16) : (s.sendLine n).lines = s.lines := rfl
@[simp] theorem State.sendLine_receiver (n : Fin 16) : (s.sendLine n).receiver = s.receiver := rfl
@[simp] theorem State.sendLine_agents (n : Fin 16) : (s.sendLine n).agents = s.agents := rfl
@[simp] theorem State.sendLine_counters (n : Fin 16) : (s.sendLine n).counters = s.counters := rfl
@[simp] theorem State.sendLine_groups (n : Fin 16) : (s.sendLine n).groups = s.groups := rfl
@[simp] theorem State.sendLine_chainTag (n : Fin 16) : (s.sendLine n).chainTag = s.chainTag := rfl
@[simp] theorem State.sendLine_queue (n : Fin 16) : (s.sendLine n).queue = s.queue := rfl
@[simp] theorem State.sendLine_events (n : Fin 16) : (s.sendLine n).events = s.events := rfl
@[simp] theorem State.sendLine_host (n : Fin 16) : (s.sendLine n).host = s.host := rfl
@[simp] theorem State.sendLine_bus (n : Fin 16) : (s.sendLine n).bus = s.bus := rfl
@[simp] theorem State.sendLine_mode (n : Fin 16) : (s.sendLine n).mode = s.mode := rfl
@[simp] theorem State.sendLine_freeCount (n : Fin 16) : (s.sendLine n).freeCount = s.freeCount := rfl
@[simp] theorem State.sendLine_pending (n : Fin 16) : (s.sendLine n).pending = s.pending := rfl
@[simp] theorem State.sendLine_paths (n : Fin 16) : (s.sendLine n).paths = { s.paths with lineEvents := s.paths.lineEvents ++ [n] } := rfl

/-! ### State.sendLink -/

@[simp] theorem State.sendLink_timebase (m : LinkMessage) : (s.sendLink m).timebase = s.timebase := rfl
@[simp] theorem State.sendLink_lines (m : LinkMessage) : (s.sendLink m).lines = s.lines := rfl
@[simp] theorem State.sendLink_receiver (m : LinkMessage) : (s.sendLink m).receiver = s.receiver := rfl
@[simp] theorem State.sendLink_agents (m : LinkMessage) : (s.sendLink m).agents = s.agents := rfl
@[simp] theorem State.sendLink_counters (m : LinkMessage) : (s.sendLink m).counters = s.counters := rfl
@[simp] theorem State.sendLink_groups (m : LinkMessage) : (s.sendLink m).groups = s.groups := rfl
@[simp] theorem State.sendLink_chainTag (m : LinkMessage) : (s.sendLink m).chainTag = s.chainTag := rfl
@[simp] theorem State.sendLink_queue (m : LinkMessage) : (s.sendLink m).queue = s.queue := rfl
@[simp] theorem State.sendLink_events (m : LinkMessage) : (s.sendLink m).events = s.events := rfl
@[simp] theorem State.sendLink_host (m : LinkMessage) : (s.sendLink m).host = s.host := rfl
@[simp] theorem State.sendLink_bus (m : LinkMessage) : (s.sendLink m).bus = s.bus := rfl
@[simp] theorem State.sendLink_mode (m : LinkMessage) : (s.sendLink m).mode = s.mode := rfl
@[simp] theorem State.sendLink_freeCount (m : LinkMessage) : (s.sendLink m).freeCount = s.freeCount := rfl
@[simp] theorem State.sendLink_pending (m : LinkMessage) : (s.sendLink m).pending = s.pending := rfl
@[simp] theorem State.sendLink_paths (m : LinkMessage) : (s.sendLink m).paths = { s.paths with linkToEngine := s.paths.linkToEngine ++ [m] } := rfl

/-! ### State.sendTicks -/

@[simp] theorem State.sendTicks_timebase : (s.sendTicks).timebase = s.timebase := rfl
@[simp] theorem State.sendTicks_lines : (s.sendTicks).lines = s.lines := rfl
@[simp] theorem State.sendTicks_receiver : (s.sendTicks).receiver = s.receiver := rfl
@[simp] theorem State.sendTicks_agents : (s.sendTicks).agents = s.agents := rfl
@[simp] theorem State.sendTicks_counters : (s.sendTicks).counters = s.counters := rfl
@[simp] theorem State.sendTicks_groups : (s.sendTicks).groups = s.groups := rfl
@[simp] theorem State.sendTicks_chainTag : (s.sendTicks).chainTag = s.chainTag := rfl
@[simp] theorem State.sendTicks_queue : (s.sendTicks).queue = s.queue := rfl
@[simp] theorem State.sendTicks_events : (s.sendTicks).events = s.events := rfl
@[simp] theorem State.sendTicks_host : (s.sendTicks).host = s.host := rfl
@[simp] theorem State.sendTicks_bus : (s.sendTicks).bus = s.bus := rfl
@[simp] theorem State.sendTicks_mode : (s.sendTicks).mode = s.mode := rfl
@[simp] theorem State.sendTicks_freeCount : (s.sendTicks).freeCount = s.freeCount := rfl
@[simp] theorem State.sendTicks_pending : (s.sendTicks).pending = s.pending := rfl

/-! ### State.sendOverflows -/

@[simp] theorem State.sendOverflows_timebase (ks : List (Fin 32)) : (s.sendOverflows ks).timebase = s.timebase := rfl
@[simp] theorem State.sendOverflows_lines (ks : List (Fin 32)) : (s.sendOverflows ks).lines = s.lines := rfl
@[simp] theorem State.sendOverflows_receiver (ks : List (Fin 32)) : (s.sendOverflows ks).receiver = s.receiver := rfl
@[simp] theorem State.sendOverflows_agents (ks : List (Fin 32)) : (s.sendOverflows ks).agents = s.agents := rfl
@[simp] theorem State.sendOverflows_counters (ks : List (Fin 32)) : (s.sendOverflows ks).counters = s.counters := rfl
@[simp] theorem State.sendOverflows_groups (ks : List (Fin 32)) : (s.sendOverflows ks).groups = s.groups := rfl
@[simp] theorem State.sendOverflows_chainTag (ks : List (Fin 32)) : (s.sendOverflows ks).chainTag = s.chainTag := rfl
@[simp] theorem State.sendOverflows_queue (ks : List (Fin 32)) : (s.sendOverflows ks).queue = s.queue := rfl
@[simp] theorem State.sendOverflows_events (ks : List (Fin 32)) : (s.sendOverflows ks).events = s.events := rfl
@[simp] theorem State.sendOverflows_host (ks : List (Fin 32)) : (s.sendOverflows ks).host = s.host := rfl
@[simp] theorem State.sendOverflows_bus (ks : List (Fin 32)) : (s.sendOverflows ks).bus = s.bus := rfl
@[simp] theorem State.sendOverflows_mode (ks : List (Fin 32)) : (s.sendOverflows ks).mode = s.mode := rfl
@[simp] theorem State.sendOverflows_freeCount (ks : List (Fin 32)) : (s.sendOverflows ks).freeCount = s.freeCount := rfl
@[simp] theorem State.sendOverflows_pending (ks : List (Fin 32)) : (s.sendOverflows ks).pending = s.pending := rfl
@[simp] theorem State.sendOverflows_paths (ks : List (Fin 32)) : (s.sendOverflows ks).paths = { s.paths with overflows := s.paths.overflows ++ ks } := rfl

/-! ### State.sendPlacement -/

@[simp] theorem State.sendPlacement_timebase (g : Fin 8) : (s.sendPlacement g).timebase = s.timebase := rfl
@[simp] theorem State.sendPlacement_lines (g : Fin 8) : (s.sendPlacement g).lines = s.lines := rfl
@[simp] theorem State.sendPlacement_receiver (g : Fin 8) : (s.sendPlacement g).receiver = s.receiver := rfl
@[simp] theorem State.sendPlacement_agents (g : Fin 8) : (s.sendPlacement g).agents = s.agents := rfl
@[simp] theorem State.sendPlacement_counters (g : Fin 8) : (s.sendPlacement g).counters = s.counters := rfl
@[simp] theorem State.sendPlacement_groups (g : Fin 8) : (s.sendPlacement g).groups = s.groups := rfl
@[simp] theorem State.sendPlacement_chainTag (g : Fin 8) : (s.sendPlacement g).chainTag = s.chainTag := rfl
@[simp] theorem State.sendPlacement_queue (g : Fin 8) : (s.sendPlacement g).queue = s.queue := rfl
@[simp] theorem State.sendPlacement_events (g : Fin 8) : (s.sendPlacement g).events = s.events := rfl
@[simp] theorem State.sendPlacement_host (g : Fin 8) : (s.sendPlacement g).host = s.host := rfl
@[simp] theorem State.sendPlacement_bus (g : Fin 8) : (s.sendPlacement g).bus = s.bus := rfl
@[simp] theorem State.sendPlacement_mode (g : Fin 8) : (s.sendPlacement g).mode = s.mode := rfl
@[simp] theorem State.sendPlacement_freeCount (g : Fin 8) : (s.sendPlacement g).freeCount = s.freeCount := rfl
@[simp] theorem State.sendPlacement_pending (g : Fin 8) : (s.sendPlacement g).pending = s.pending := rfl
@[simp] theorem State.sendPlacement_paths (g : Fin 8) : (s.sendPlacement g).paths = { s.paths with placements := s.paths.placements ++ [g] } := rfl

/-! ### State.sendChain -/

@[simp] theorem State.sendChain_timebase (r : ChainRequest) : (s.sendChain r).timebase = s.timebase := rfl
@[simp] theorem State.sendChain_lines (r : ChainRequest) : (s.sendChain r).lines = s.lines := rfl
@[simp] theorem State.sendChain_receiver (r : ChainRequest) : (s.sendChain r).receiver = s.receiver := rfl
@[simp] theorem State.sendChain_agents (r : ChainRequest) : (s.sendChain r).agents = s.agents := rfl
@[simp] theorem State.sendChain_counters (r : ChainRequest) : (s.sendChain r).counters = s.counters := rfl
@[simp] theorem State.sendChain_groups (r : ChainRequest) : (s.sendChain r).groups = s.groups := rfl
@[simp] theorem State.sendChain_chainTag (r : ChainRequest) : (s.sendChain r).chainTag = s.chainTag := rfl
@[simp] theorem State.sendChain_queue (r : ChainRequest) : (s.sendChain r).queue = s.queue := rfl
@[simp] theorem State.sendChain_events (r : ChainRequest) : (s.sendChain r).events = s.events := rfl
@[simp] theorem State.sendChain_host (r : ChainRequest) : (s.sendChain r).host = s.host := rfl
@[simp] theorem State.sendChain_bus (r : ChainRequest) : (s.sendChain r).bus = s.bus := rfl
@[simp] theorem State.sendChain_mode (r : ChainRequest) : (s.sendChain r).mode = s.mode := rfl
@[simp] theorem State.sendChain_freeCount (r : ChainRequest) : (s.sendChain r).freeCount = s.freeCount := rfl
@[simp] theorem State.sendChain_pending (r : ChainRequest) : (s.sendChain r).pending = s.pending := rfl
@[simp] theorem State.sendChain_paths (r : ChainRequest) : (s.sendChain r).paths = { s.paths with chainRequests := s.paths.chainRequests ++ [r] } := rfl

/-! ### State.sendDraft -/

@[simp] theorem State.sendDraft_timebase (m : DraftMessage) : (s.sendDraft m).timebase = s.timebase := rfl
@[simp] theorem State.sendDraft_lines (m : DraftMessage) : (s.sendDraft m).lines = s.lines := rfl
@[simp] theorem State.sendDraft_receiver (m : DraftMessage) : (s.sendDraft m).receiver = s.receiver := rfl
@[simp] theorem State.sendDraft_agents (m : DraftMessage) : (s.sendDraft m).agents = s.agents := rfl
@[simp] theorem State.sendDraft_counters (m : DraftMessage) : (s.sendDraft m).counters = s.counters := rfl
@[simp] theorem State.sendDraft_groups (m : DraftMessage) : (s.sendDraft m).groups = s.groups := rfl
@[simp] theorem State.sendDraft_chainTag (m : DraftMessage) : (s.sendDraft m).chainTag = s.chainTag := rfl
@[simp] theorem State.sendDraft_queue (m : DraftMessage) : (s.sendDraft m).queue = s.queue := rfl
@[simp] theorem State.sendDraft_events (m : DraftMessage) : (s.sendDraft m).events = s.events := rfl
@[simp] theorem State.sendDraft_host (m : DraftMessage) : (s.sendDraft m).host = s.host := rfl
@[simp] theorem State.sendDraft_bus (m : DraftMessage) : (s.sendDraft m).bus = s.bus := rfl
@[simp] theorem State.sendDraft_mode (m : DraftMessage) : (s.sendDraft m).mode = s.mode := rfl
@[simp] theorem State.sendDraft_freeCount (m : DraftMessage) : (s.sendDraft m).freeCount = s.freeCount := rfl
@[simp] theorem State.sendDraft_pending (m : DraftMessage) : (s.sendDraft m).pending = s.pending := rfl
@[simp] theorem State.sendDraft_paths (m : DraftMessage) : (s.sendDraft m).paths = { s.paths with draftPath := s.paths.draftPath ++ [m] } := rfl

/-! ### State.sendAnswer -/

@[simp] theorem State.sendAnswer_timebase (k : AnswerKind) (g : Fin 8) : (s.sendAnswer k g).timebase = s.timebase := rfl
@[simp] theorem State.sendAnswer_lines (k : AnswerKind) (g : Fin 8) : (s.sendAnswer k g).lines = s.lines := rfl
@[simp] theorem State.sendAnswer_receiver (k : AnswerKind) (g : Fin 8) : (s.sendAnswer k g).receiver = s.receiver := rfl
@[simp] theorem State.sendAnswer_agents (k : AnswerKind) (g : Fin 8) : (s.sendAnswer k g).agents = s.agents := rfl
@[simp] theorem State.sendAnswer_counters (k : AnswerKind) (g : Fin 8) : (s.sendAnswer k g).counters = s.counters := rfl
@[simp] theorem State.sendAnswer_groups (k : AnswerKind) (g : Fin 8) : (s.sendAnswer k g).groups = s.groups := rfl
@[simp] theorem State.sendAnswer_chainTag (k : AnswerKind) (g : Fin 8) : (s.sendAnswer k g).chainTag = s.chainTag := rfl
@[simp] theorem State.sendAnswer_queue (k : AnswerKind) (g : Fin 8) : (s.sendAnswer k g).queue = s.queue := rfl
@[simp] theorem State.sendAnswer_events (k : AnswerKind) (g : Fin 8) : (s.sendAnswer k g).events = s.events := rfl
@[simp] theorem State.sendAnswer_host (k : AnswerKind) (g : Fin 8) : (s.sendAnswer k g).host = s.host := rfl
@[simp] theorem State.sendAnswer_bus (k : AnswerKind) (g : Fin 8) : (s.sendAnswer k g).bus = s.bus := rfl
@[simp] theorem State.sendAnswer_mode (k : AnswerKind) (g : Fin 8) : (s.sendAnswer k g).mode = s.mode := rfl
@[simp] theorem State.sendAnswer_freeCount (k : AnswerKind) (g : Fin 8) : (s.sendAnswer k g).freeCount = s.freeCount := rfl
@[simp] theorem State.sendAnswer_pending (k : AnswerKind) (g : Fin 8) : (s.sendAnswer k g).pending = s.pending := rfl
@[simp] theorem State.sendAnswer_paths (k : AnswerKind) (g : Fin 8) : (s.sendAnswer k g).paths = { s.paths with answers := s.paths.answers ++ [⟨k, g⟩] } := rfl

/-! ### State.receiverNotice -/

@[simp] theorem State.receiverNotice_timebase (m : Notice) : (s.receiverNotice m).timebase = s.timebase := rfl
@[simp] theorem State.receiverNotice_lines (m : Notice) : (s.receiverNotice m).lines = s.lines := rfl
@[simp] theorem State.receiverNotice_receiver (m : Notice) : (s.receiverNotice m).receiver = s.receiver := rfl
@[simp] theorem State.receiverNotice_agents (m : Notice) : (s.receiverNotice m).agents = s.agents := rfl
@[simp] theorem State.receiverNotice_counters (m : Notice) : (s.receiverNotice m).counters = s.counters := rfl
@[simp] theorem State.receiverNotice_groups (m : Notice) : (s.receiverNotice m).groups = s.groups := rfl
@[simp] theorem State.receiverNotice_chainTag (m : Notice) : (s.receiverNotice m).chainTag = s.chainTag := rfl
@[simp] theorem State.receiverNotice_queue (m : Notice) : (s.receiverNotice m).queue = s.queue := rfl
@[simp] theorem State.receiverNotice_events (m : Notice) : (s.receiverNotice m).events = s.events := rfl
@[simp] theorem State.receiverNotice_host (m : Notice) : (s.receiverNotice m).host = s.host := rfl
@[simp] theorem State.receiverNotice_bus (m : Notice) : (s.receiverNotice m).bus = s.bus := rfl
@[simp] theorem State.receiverNotice_mode (m : Notice) : (s.receiverNotice m).mode = s.mode := rfl
@[simp] theorem State.receiverNotice_freeCount (m : Notice) : (s.receiverNotice m).freeCount = s.freeCount := rfl
@[simp] theorem State.receiverNotice_pending (m : Notice) : (s.receiverNotice m).pending = s.pending := rfl
@[simp] theorem State.receiverNotice_paths (m : Notice) : (s.receiverNotice m).paths = { s.paths with fromReceiver := s.paths.fromReceiver ++ [m] } := rfl

/-! ### State.engineNotice -/

@[simp] theorem State.engineNotice_timebase (m : Notice) : (s.engineNotice m).timebase = s.timebase := rfl
@[simp] theorem State.engineNotice_lines (m : Notice) : (s.engineNotice m).lines = s.lines := rfl
@[simp] theorem State.engineNotice_receiver (m : Notice) : (s.engineNotice m).receiver = s.receiver := rfl
@[simp] theorem State.engineNotice_agents (m : Notice) : (s.engineNotice m).agents = s.agents := rfl
@[simp] theorem State.engineNotice_counters (m : Notice) : (s.engineNotice m).counters = s.counters := rfl
@[simp] theorem State.engineNotice_groups (m : Notice) : (s.engineNotice m).groups = s.groups := rfl
@[simp] theorem State.engineNotice_chainTag (m : Notice) : (s.engineNotice m).chainTag = s.chainTag := rfl
@[simp] theorem State.engineNotice_queue (m : Notice) : (s.engineNotice m).queue = s.queue := rfl
@[simp] theorem State.engineNotice_events (m : Notice) : (s.engineNotice m).events = s.events := rfl
@[simp] theorem State.engineNotice_host (m : Notice) : (s.engineNotice m).host = s.host := rfl
@[simp] theorem State.engineNotice_bus (m : Notice) : (s.engineNotice m).bus = s.bus := rfl
@[simp] theorem State.engineNotice_mode (m : Notice) : (s.engineNotice m).mode = s.mode := rfl
@[simp] theorem State.engineNotice_freeCount (m : Notice) : (s.engineNotice m).freeCount = s.freeCount := rfl
@[simp] theorem State.engineNotice_pending (m : Notice) : (s.engineNotice m).pending = s.pending := rfl
@[simp] theorem State.engineNotice_paths (m : Notice) : (s.engineNotice m).paths = { s.paths with fromEngine := s.paths.fromEngine ++ [m] } := rfl

/-! ### State.queueNotice -/

@[simp] theorem State.queueNotice_timebase (m : Notice) : (s.queueNotice m).timebase = s.timebase := rfl
@[simp] theorem State.queueNotice_lines (m : Notice) : (s.queueNotice m).lines = s.lines := rfl
@[simp] theorem State.queueNotice_receiver (m : Notice) : (s.queueNotice m).receiver = s.receiver := rfl
@[simp] theorem State.queueNotice_agents (m : Notice) : (s.queueNotice m).agents = s.agents := rfl
@[simp] theorem State.queueNotice_counters (m : Notice) : (s.queueNotice m).counters = s.counters := rfl
@[simp] theorem State.queueNotice_groups (m : Notice) : (s.queueNotice m).groups = s.groups := rfl
@[simp] theorem State.queueNotice_chainTag (m : Notice) : (s.queueNotice m).chainTag = s.chainTag := rfl
@[simp] theorem State.queueNotice_queue (m : Notice) : (s.queueNotice m).queue = s.queue := rfl
@[simp] theorem State.queueNotice_events (m : Notice) : (s.queueNotice m).events = s.events := rfl
@[simp] theorem State.queueNotice_host (m : Notice) : (s.queueNotice m).host = s.host := rfl
@[simp] theorem State.queueNotice_bus (m : Notice) : (s.queueNotice m).bus = s.bus := rfl
@[simp] theorem State.queueNotice_mode (m : Notice) : (s.queueNotice m).mode = s.mode := rfl
@[simp] theorem State.queueNotice_freeCount (m : Notice) : (s.queueNotice m).freeCount = s.freeCount := rfl
@[simp] theorem State.queueNotice_pending (m : Notice) : (s.queueNotice m).pending = s.pending := rfl
@[simp] theorem State.queueNotice_paths (m : Notice) : (s.queueNotice m).paths = { s.paths with fromQueue := s.paths.fromQueue ++ [m] } := rfl

/-! ### State.withResult -/

@[simp] theorem State.withResult_timebase (r : ResultCode) : (s.withResult r).timebase = s.timebase := rfl
@[simp] theorem State.withResult_lines (r : ResultCode) : (s.withResult r).lines = s.lines := rfl
@[simp] theorem State.withResult_receiver (r : ResultCode) : (s.withResult r).receiver = s.receiver := rfl
@[simp] theorem State.withResult_agents (r : ResultCode) : (s.withResult r).agents = s.agents := rfl
@[simp] theorem State.withResult_counters (r : ResultCode) : (s.withResult r).counters = s.counters := rfl
@[simp] theorem State.withResult_groups (r : ResultCode) : (s.withResult r).groups = s.groups := rfl
@[simp] theorem State.withResult_chainTag (r : ResultCode) : (s.withResult r).chainTag = s.chainTag := rfl
@[simp] theorem State.withResult_queue (r : ResultCode) : (s.withResult r).queue = s.queue := rfl
@[simp] theorem State.withResult_events (r : ResultCode) : (s.withResult r).events = s.events := rfl
@[simp] theorem State.withResult_bus (r : ResultCode) : (s.withResult r).bus = s.bus := rfl
@[simp] theorem State.withResult_mode (r : ResultCode) : (s.withResult r).mode = s.mode := rfl
@[simp] theorem State.withResult_paths (r : ResultCode) : (s.withResult r).paths = s.paths := rfl
@[simp] theorem State.withResult_freeCount (r : ResultCode) : (s.withResult r).freeCount = s.freeCount := rfl
@[simp] theorem State.withResult_pending (r : ResultCode) : (s.withResult r).pending = s.pending := rfl

/-! ### State.withBus -/

@[simp] theorem State.withBus_timebase (b : Bus) : (s.withBus b).timebase = s.timebase := rfl
@[simp] theorem State.withBus_lines (b : Bus) : (s.withBus b).lines = s.lines := rfl
@[simp] theorem State.withBus_receiver (b : Bus) : (s.withBus b).receiver = s.receiver := rfl
@[simp] theorem State.withBus_agents (b : Bus) : (s.withBus b).agents = s.agents := rfl
@[simp] theorem State.withBus_counters (b : Bus) : (s.withBus b).counters = s.counters := rfl
@[simp] theorem State.withBus_groups (b : Bus) : (s.withBus b).groups = s.groups := rfl
@[simp] theorem State.withBus_chainTag (b : Bus) : (s.withBus b).chainTag = s.chainTag := rfl
@[simp] theorem State.withBus_queue (b : Bus) : (s.withBus b).queue = s.queue := rfl
@[simp] theorem State.withBus_events (b : Bus) : (s.withBus b).events = s.events := rfl
@[simp] theorem State.withBus_host (b : Bus) : (s.withBus b).host = s.host := rfl
@[simp] theorem State.withBus_mode (b : Bus) : (s.withBus b).mode = s.mode := rfl
@[simp] theorem State.withBus_paths (b : Bus) : (s.withBus b).paths = s.paths := rfl
@[simp] theorem State.withBus_freeCount (b : Bus) : (s.withBus b).freeCount = s.freeCount := rfl
@[simp] theorem State.withBus_pending (b : Bus) : (s.withBus b).pending = s.pending := rfl

/-! ### State.mapCounters -/

@[simp] theorem State.mapCounters_timebase (f : Fin 32 → Counter → Counter) : (s.mapCounters f).timebase = s.timebase := by simp only [State.mapCounters]
@[simp] theorem State.mapCounters_lines (f : Fin 32 → Counter → Counter) : (s.mapCounters f).lines = s.lines := by simp only [State.mapCounters]
@[simp] theorem State.mapCounters_receiver (f : Fin 32 → Counter → Counter) : (s.mapCounters f).receiver = s.receiver := by simp only [State.mapCounters]
@[simp] theorem State.mapCounters_agents (f : Fin 32 → Counter → Counter) : (s.mapCounters f).agents = s.agents := by simp only [State.mapCounters]
@[simp] theorem State.mapCounters_groups (f : Fin 32 → Counter → Counter) : (s.mapCounters f).groups = s.groups := by simp only [State.mapCounters]
@[simp] theorem State.mapCounters_chainTag (f : Fin 32 → Counter → Counter) : (s.mapCounters f).chainTag = s.chainTag := by simp only [State.mapCounters]
@[simp] theorem State.mapCounters_queue (f : Fin 32 → Counter → Counter) : (s.mapCounters f).queue = s.queue := by simp only [State.mapCounters]
@[simp] theorem State.mapCounters_events (f : Fin 32 → Counter → Counter) : (s.mapCounters f).events = s.events := by simp only [State.mapCounters]
@[simp] theorem State.mapCounters_host (f : Fin 32 → Counter → Counter) : (s.mapCounters f).host = s.host := by simp only [State.mapCounters]
@[simp] theorem State.mapCounters_bus (f : Fin 32 → Counter → Counter) : (s.mapCounters f).bus = s.bus := by simp only [State.mapCounters]
@[simp] theorem State.mapCounters_mode (f : Fin 32 → Counter → Counter) : (s.mapCounters f).mode = s.mode := by simp only [State.mapCounters]
@[simp] theorem State.mapCounters_paths (f : Fin 32 → Counter → Counter) : (s.mapCounters f).paths = s.paths := by simp only [State.mapCounters]
@[simp] theorem State.mapCounters_freeCount (f : Fin 32 → Counter → Counter) : (s.mapCounters f).freeCount = s.freeCount := by simp only [State.mapCounters]
@[simp] theorem State.mapCounters_pending (f : Fin 32 → Counter → Counter) : (s.mapCounters f).pending = s.pending := by simp only [State.mapCounters]

/-! ### State.mapGroups -/

@[simp] theorem State.mapGroups_timebase (f : Fin 8 → Group → Group) : (s.mapGroups f).timebase = s.timebase := by simp only [State.mapGroups]
@[simp] theorem State.mapGroups_lines (f : Fin 8 → Group → Group) : (s.mapGroups f).lines = s.lines := by simp only [State.mapGroups]
@[simp] theorem State.mapGroups_receiver (f : Fin 8 → Group → Group) : (s.mapGroups f).receiver = s.receiver := by simp only [State.mapGroups]
@[simp] theorem State.mapGroups_agents (f : Fin 8 → Group → Group) : (s.mapGroups f).agents = s.agents := by simp only [State.mapGroups]
@[simp] theorem State.mapGroups_counters (f : Fin 8 → Group → Group) : (s.mapGroups f).counters = s.counters := by simp only [State.mapGroups]
@[simp] theorem State.mapGroups_chainTag (f : Fin 8 → Group → Group) : (s.mapGroups f).chainTag = s.chainTag := by simp only [State.mapGroups]
@[simp] theorem State.mapGroups_queue (f : Fin 8 → Group → Group) : (s.mapGroups f).queue = s.queue := by simp only [State.mapGroups]
@[simp] theorem State.mapGroups_events (f : Fin 8 → Group → Group) : (s.mapGroups f).events = s.events := by simp only [State.mapGroups]
@[simp] theorem State.mapGroups_host (f : Fin 8 → Group → Group) : (s.mapGroups f).host = s.host := by simp only [State.mapGroups]
@[simp] theorem State.mapGroups_bus (f : Fin 8 → Group → Group) : (s.mapGroups f).bus = s.bus := by simp only [State.mapGroups]
@[simp] theorem State.mapGroups_mode (f : Fin 8 → Group → Group) : (s.mapGroups f).mode = s.mode := by simp only [State.mapGroups]
@[simp] theorem State.mapGroups_paths (f : Fin 8 → Group → Group) : (s.mapGroups f).paths = s.paths := by simp only [State.mapGroups]
@[simp] theorem State.mapGroups_freeCount (f : Fin 8 → Group → Group) : (s.mapGroups f).freeCount = s.freeCount := by simp only [State.mapGroups]
@[simp] theorem State.mapGroups_pending (f : Fin 8 → Group → Group) : (s.mapGroups f).pending = s.pending := by simp only [State.mapGroups]

/-! ### State.mapAgents -/

@[simp] theorem State.mapAgents_timebase (f : Fin 8 → Agent → Agent) : (s.mapAgents f).timebase = s.timebase := by simp only [State.mapAgents]
@[simp] theorem State.mapAgents_lines (f : Fin 8 → Agent → Agent) : (s.mapAgents f).lines = s.lines := by simp only [State.mapAgents]
@[simp] theorem State.mapAgents_receiver (f : Fin 8 → Agent → Agent) : (s.mapAgents f).receiver = s.receiver := by simp only [State.mapAgents]
@[simp] theorem State.mapAgents_counters (f : Fin 8 → Agent → Agent) : (s.mapAgents f).counters = s.counters := by simp only [State.mapAgents]
@[simp] theorem State.mapAgents_groups (f : Fin 8 → Agent → Agent) : (s.mapAgents f).groups = s.groups := by simp only [State.mapAgents]
@[simp] theorem State.mapAgents_chainTag (f : Fin 8 → Agent → Agent) : (s.mapAgents f).chainTag = s.chainTag := by simp only [State.mapAgents]
@[simp] theorem State.mapAgents_queue (f : Fin 8 → Agent → Agent) : (s.mapAgents f).queue = s.queue := by simp only [State.mapAgents]
@[simp] theorem State.mapAgents_events (f : Fin 8 → Agent → Agent) : (s.mapAgents f).events = s.events := by simp only [State.mapAgents]
@[simp] theorem State.mapAgents_host (f : Fin 8 → Agent → Agent) : (s.mapAgents f).host = s.host := by simp only [State.mapAgents]
@[simp] theorem State.mapAgents_bus (f : Fin 8 → Agent → Agent) : (s.mapAgents f).bus = s.bus := by simp only [State.mapAgents]
@[simp] theorem State.mapAgents_mode (f : Fin 8 → Agent → Agent) : (s.mapAgents f).mode = s.mode := by simp only [State.mapAgents]
@[simp] theorem State.mapAgents_paths (f : Fin 8 → Agent → Agent) : (s.mapAgents f).paths = s.paths := by simp only [State.mapAgents]
@[simp] theorem State.mapAgents_freeCount (f : Fin 8 → Agent → Agent) : (s.mapAgents f).freeCount = s.freeCount := by simp only [State.mapAgents]
@[simp] theorem State.mapAgents_pending (f : Fin 8 → Agent → Agent) : (s.mapAgents f).pending = s.pending := by simp only [State.mapAgents]

/-! ### State.modifyCounter -/

@[simp] theorem State.modifyCounter_timebase (k : Fin 32) (f : Counter → Counter) : (s.modifyCounter k f).timebase = s.timebase := rfl
@[simp] theorem State.modifyCounter_lines (k : Fin 32) (f : Counter → Counter) : (s.modifyCounter k f).lines = s.lines := rfl
@[simp] theorem State.modifyCounter_receiver (k : Fin 32) (f : Counter → Counter) : (s.modifyCounter k f).receiver = s.receiver := rfl
@[simp] theorem State.modifyCounter_agents (k : Fin 32) (f : Counter → Counter) : (s.modifyCounter k f).agents = s.agents := rfl
@[simp] theorem State.modifyCounter_groups (k : Fin 32) (f : Counter → Counter) : (s.modifyCounter k f).groups = s.groups := rfl
@[simp] theorem State.modifyCounter_chainTag (k : Fin 32) (f : Counter → Counter) : (s.modifyCounter k f).chainTag = s.chainTag := rfl
@[simp] theorem State.modifyCounter_queue (k : Fin 32) (f : Counter → Counter) : (s.modifyCounter k f).queue = s.queue := rfl
@[simp] theorem State.modifyCounter_events (k : Fin 32) (f : Counter → Counter) : (s.modifyCounter k f).events = s.events := rfl
@[simp] theorem State.modifyCounter_host (k : Fin 32) (f : Counter → Counter) : (s.modifyCounter k f).host = s.host := rfl
@[simp] theorem State.modifyCounter_bus (k : Fin 32) (f : Counter → Counter) : (s.modifyCounter k f).bus = s.bus := rfl
@[simp] theorem State.modifyCounter_mode (k : Fin 32) (f : Counter → Counter) : (s.modifyCounter k f).mode = s.mode := rfl
@[simp] theorem State.modifyCounter_paths (k : Fin 32) (f : Counter → Counter) : (s.modifyCounter k f).paths = s.paths := rfl
@[simp] theorem State.modifyCounter_freeCount (k : Fin 32) (f : Counter → Counter) : (s.modifyCounter k f).freeCount = s.freeCount := rfl
@[simp] theorem State.modifyCounter_pending (k : Fin 32) (f : Counter → Counter) : (s.modifyCounter k f).pending = s.pending := rfl

/-! ### State.modifyGroup -/

@[simp] theorem State.modifyGroup_timebase (g : Fin 8) (f : Group → Group) : (s.modifyGroup g f).timebase = s.timebase := rfl
@[simp] theorem State.modifyGroup_lines (g : Fin 8) (f : Group → Group) : (s.modifyGroup g f).lines = s.lines := rfl
@[simp] theorem State.modifyGroup_receiver (g : Fin 8) (f : Group → Group) : (s.modifyGroup g f).receiver = s.receiver := rfl
@[simp] theorem State.modifyGroup_agents (g : Fin 8) (f : Group → Group) : (s.modifyGroup g f).agents = s.agents := rfl
@[simp] theorem State.modifyGroup_counters (g : Fin 8) (f : Group → Group) : (s.modifyGroup g f).counters = s.counters := rfl
@[simp] theorem State.modifyGroup_chainTag (g : Fin 8) (f : Group → Group) : (s.modifyGroup g f).chainTag = s.chainTag := rfl
@[simp] theorem State.modifyGroup_queue (g : Fin 8) (f : Group → Group) : (s.modifyGroup g f).queue = s.queue := rfl
@[simp] theorem State.modifyGroup_events (g : Fin 8) (f : Group → Group) : (s.modifyGroup g f).events = s.events := rfl
@[simp] theorem State.modifyGroup_host (g : Fin 8) (f : Group → Group) : (s.modifyGroup g f).host = s.host := rfl
@[simp] theorem State.modifyGroup_bus (g : Fin 8) (f : Group → Group) : (s.modifyGroup g f).bus = s.bus := rfl
@[simp] theorem State.modifyGroup_mode (g : Fin 8) (f : Group → Group) : (s.modifyGroup g f).mode = s.mode := rfl
@[simp] theorem State.modifyGroup_paths (g : Fin 8) (f : Group → Group) : (s.modifyGroup g f).paths = s.paths := rfl
@[simp] theorem State.modifyGroup_freeCount (g : Fin 8) (f : Group → Group) : (s.modifyGroup g f).freeCount = s.freeCount := rfl
@[simp] theorem State.modifyGroup_pending (g : Fin 8) (f : Group → Group) : (s.modifyGroup g f).pending = s.pending := rfl

/-! ### State.modifyAgent -/

@[simp] theorem State.modifyAgent_timebase (a : Fin 8) (f : Agent → Agent) : (s.modifyAgent a f).timebase = s.timebase := rfl
@[simp] theorem State.modifyAgent_lines (a : Fin 8) (f : Agent → Agent) : (s.modifyAgent a f).lines = s.lines := rfl
@[simp] theorem State.modifyAgent_receiver (a : Fin 8) (f : Agent → Agent) : (s.modifyAgent a f).receiver = s.receiver := rfl
@[simp] theorem State.modifyAgent_counters (a : Fin 8) (f : Agent → Agent) : (s.modifyAgent a f).counters = s.counters := rfl
@[simp] theorem State.modifyAgent_groups (a : Fin 8) (f : Agent → Agent) : (s.modifyAgent a f).groups = s.groups := rfl
@[simp] theorem State.modifyAgent_chainTag (a : Fin 8) (f : Agent → Agent) : (s.modifyAgent a f).chainTag = s.chainTag := rfl
@[simp] theorem State.modifyAgent_queue (a : Fin 8) (f : Agent → Agent) : (s.modifyAgent a f).queue = s.queue := rfl
@[simp] theorem State.modifyAgent_events (a : Fin 8) (f : Agent → Agent) : (s.modifyAgent a f).events = s.events := rfl
@[simp] theorem State.modifyAgent_host (a : Fin 8) (f : Agent → Agent) : (s.modifyAgent a f).host = s.host := rfl
@[simp] theorem State.modifyAgent_bus (a : Fin 8) (f : Agent → Agent) : (s.modifyAgent a f).bus = s.bus := rfl
@[simp] theorem State.modifyAgent_mode (a : Fin 8) (f : Agent → Agent) : (s.modifyAgent a f).mode = s.mode := rfl
@[simp] theorem State.modifyAgent_paths (a : Fin 8) (f : Agent → Agent) : (s.modifyAgent a f).paths = s.paths := rfl
@[simp] theorem State.modifyAgent_freeCount (a : Fin 8) (f : Agent → Agent) : (s.modifyAgent a f).freeCount = s.freeCount := rfl
@[simp] theorem State.modifyAgent_pending (a : Fin 8) (f : Agent → Agent) : (s.modifyAgent a f).pending = s.pending := rfl

/-! ### State.modifyLine -/

@[simp] theorem State.modifyLine_timebase (n : Fin 16) (f : Line → Line) : (s.modifyLine n f).timebase = s.timebase := rfl
@[simp] theorem State.modifyLine_receiver (n : Fin 16) (f : Line → Line) : (s.modifyLine n f).receiver = s.receiver := rfl
@[simp] theorem State.modifyLine_agents (n : Fin 16) (f : Line → Line) : (s.modifyLine n f).agents = s.agents := rfl
@[simp] theorem State.modifyLine_counters (n : Fin 16) (f : Line → Line) : (s.modifyLine n f).counters = s.counters := rfl
@[simp] theorem State.modifyLine_groups (n : Fin 16) (f : Line → Line) : (s.modifyLine n f).groups = s.groups := rfl
@[simp] theorem State.modifyLine_chainTag (n : Fin 16) (f : Line → Line) : (s.modifyLine n f).chainTag = s.chainTag := rfl
@[simp] theorem State.modifyLine_queue (n : Fin 16) (f : Line → Line) : (s.modifyLine n f).queue = s.queue := rfl
@[simp] theorem State.modifyLine_events (n : Fin 16) (f : Line → Line) : (s.modifyLine n f).events = s.events := rfl
@[simp] theorem State.modifyLine_host (n : Fin 16) (f : Line → Line) : (s.modifyLine n f).host = s.host := rfl
@[simp] theorem State.modifyLine_bus (n : Fin 16) (f : Line → Line) : (s.modifyLine n f).bus = s.bus := rfl
@[simp] theorem State.modifyLine_mode (n : Fin 16) (f : Line → Line) : (s.modifyLine n f).mode = s.mode := rfl
@[simp] theorem State.modifyLine_paths (n : Fin 16) (f : Line → Line) : (s.modifyLine n f).paths = s.paths := rfl
@[simp] theorem State.modifyLine_freeCount (n : Fin 16) (f : Line → Line) : (s.modifyLine n f).freeCount = s.freeCount := rfl
@[simp] theorem State.modifyLine_pending (n : Fin 16) (f : Line → Line) : (s.modifyLine n f).pending = s.pending := rfl

/-! ### State.mapMembers -/

@[simp] theorem State.mapMembers_timebase (g : Fin 8) (f : Counter → Counter) : (s.mapMembers g f).timebase = s.timebase := by simp only [State.mapMembers, State.mapCounters]
@[simp] theorem State.mapMembers_lines (g : Fin 8) (f : Counter → Counter) : (s.mapMembers g f).lines = s.lines := by simp only [State.mapMembers, State.mapCounters]
@[simp] theorem State.mapMembers_receiver (g : Fin 8) (f : Counter → Counter) : (s.mapMembers g f).receiver = s.receiver := by simp only [State.mapMembers, State.mapCounters]
@[simp] theorem State.mapMembers_agents (g : Fin 8) (f : Counter → Counter) : (s.mapMembers g f).agents = s.agents := by simp only [State.mapMembers, State.mapCounters]
@[simp] theorem State.mapMembers_groups (g : Fin 8) (f : Counter → Counter) : (s.mapMembers g f).groups = s.groups := by simp only [State.mapMembers, State.mapCounters]
@[simp] theorem State.mapMembers_chainTag (g : Fin 8) (f : Counter → Counter) : (s.mapMembers g f).chainTag = s.chainTag := by simp only [State.mapMembers, State.mapCounters]
@[simp] theorem State.mapMembers_queue (g : Fin 8) (f : Counter → Counter) : (s.mapMembers g f).queue = s.queue := by simp only [State.mapMembers, State.mapCounters]
@[simp] theorem State.mapMembers_events (g : Fin 8) (f : Counter → Counter) : (s.mapMembers g f).events = s.events := by simp only [State.mapMembers, State.mapCounters]
@[simp] theorem State.mapMembers_host (g : Fin 8) (f : Counter → Counter) : (s.mapMembers g f).host = s.host := by simp only [State.mapMembers, State.mapCounters]
@[simp] theorem State.mapMembers_bus (g : Fin 8) (f : Counter → Counter) : (s.mapMembers g f).bus = s.bus := by simp only [State.mapMembers, State.mapCounters]
@[simp] theorem State.mapMembers_mode (g : Fin 8) (f : Counter → Counter) : (s.mapMembers g f).mode = s.mode := by simp only [State.mapMembers, State.mapCounters]
@[simp] theorem State.mapMembers_paths (g : Fin 8) (f : Counter → Counter) : (s.mapMembers g f).paths = s.paths := by simp only [State.mapMembers, State.mapCounters]
@[simp] theorem State.mapMembers_freeCount (g : Fin 8) (f : Counter → Counter) : (s.mapMembers g f).freeCount = s.freeCount := by simp only [State.mapMembers, State.mapCounters]
@[simp] theorem State.mapMembers_pending (g : Fin 8) (f : Counter → Counter) : (s.mapMembers g f).pending = s.pending := by simp only [State.mapMembers, State.mapCounters]

/-! ### State.withReception -/

@[simp] theorem State.withReception_timebase (r : Reception) : (s.withReception r).timebase = s.timebase := rfl
@[simp] theorem State.withReception_lines (r : Reception) : (s.withReception r).lines = s.lines := rfl
@[simp] theorem State.withReception_agents (r : Reception) : (s.withReception r).agents = s.agents := rfl
@[simp] theorem State.withReception_counters (r : Reception) : (s.withReception r).counters = s.counters := rfl
@[simp] theorem State.withReception_groups (r : Reception) : (s.withReception r).groups = s.groups := rfl
@[simp] theorem State.withReception_chainTag (r : Reception) : (s.withReception r).chainTag = s.chainTag := rfl
@[simp] theorem State.withReception_queue (r : Reception) : (s.withReception r).queue = s.queue := rfl
@[simp] theorem State.withReception_events (r : Reception) : (s.withReception r).events = s.events := rfl
@[simp] theorem State.withReception_host (r : Reception) : (s.withReception r).host = s.host := rfl
@[simp] theorem State.withReception_bus (r : Reception) : (s.withReception r).bus = s.bus := rfl
@[simp] theorem State.withReception_mode (r : Reception) : (s.withReception r).mode = s.mode := rfl
@[simp] theorem State.withReception_paths (r : Reception) : (s.withReception r).paths = s.paths := rfl
@[simp] theorem State.withReception_freeCount (r : Reception) : (s.withReception r).freeCount = s.freeCount := rfl
@[simp] theorem State.withReception_pending (r : Reception) : (s.withReception r).pending = s.pending := rfl

/-! ### State.withQuiet -/

@[simp] theorem State.withQuiet_timebase (q : Bool) : (s.withQuiet q).timebase = s.timebase := rfl
@[simp] theorem State.withQuiet_lines (q : Bool) : (s.withQuiet q).lines = s.lines := rfl
@[simp] theorem State.withQuiet_agents (q : Bool) : (s.withQuiet q).agents = s.agents := rfl
@[simp] theorem State.withQuiet_counters (q : Bool) : (s.withQuiet q).counters = s.counters := rfl
@[simp] theorem State.withQuiet_groups (q : Bool) : (s.withQuiet q).groups = s.groups := rfl
@[simp] theorem State.withQuiet_chainTag (q : Bool) : (s.withQuiet q).chainTag = s.chainTag := rfl
@[simp] theorem State.withQuiet_queue (q : Bool) : (s.withQuiet q).queue = s.queue := rfl
@[simp] theorem State.withQuiet_events (q : Bool) : (s.withQuiet q).events = s.events := rfl
@[simp] theorem State.withQuiet_host (q : Bool) : (s.withQuiet q).host = s.host := rfl
@[simp] theorem State.withQuiet_bus (q : Bool) : (s.withQuiet q).bus = s.bus := rfl
@[simp] theorem State.withQuiet_mode (q : Bool) : (s.withQuiet q).mode = s.mode := rfl
@[simp] theorem State.withQuiet_paths (q : Bool) : (s.withQuiet q).paths = s.paths := rfl
@[simp] theorem State.withQuiet_freeCount (q : Bool) : (s.withQuiet q).freeCount = s.freeCount := rfl
@[simp] theorem State.withQuiet_pending (q : Bool) : (s.withQuiet q).pending = s.pending := rfl

/-! ### State.withWaitList -/

@[simp] theorem State.withWaitList_timebase (ds : List Draft) : (s.withWaitList ds).timebase = s.timebase := rfl
@[simp] theorem State.withWaitList_lines (ds : List Draft) : (s.withWaitList ds).lines = s.lines := rfl
@[simp] theorem State.withWaitList_receiver (ds : List Draft) : (s.withWaitList ds).receiver = s.receiver := rfl
@[simp] theorem State.withWaitList_agents (ds : List Draft) : (s.withWaitList ds).agents = s.agents := rfl
@[simp] theorem State.withWaitList_counters (ds : List Draft) : (s.withWaitList ds).counters = s.counters := rfl
@[simp] theorem State.withWaitList_groups (ds : List Draft) : (s.withWaitList ds).groups = s.groups := rfl
@[simp] theorem State.withWaitList_chainTag (ds : List Draft) : (s.withWaitList ds).chainTag = s.chainTag := rfl
@[simp] theorem State.withWaitList_events (ds : List Draft) : (s.withWaitList ds).events = s.events := rfl
@[simp] theorem State.withWaitList_host (ds : List Draft) : (s.withWaitList ds).host = s.host := rfl
@[simp] theorem State.withWaitList_bus (ds : List Draft) : (s.withWaitList ds).bus = s.bus := rfl
@[simp] theorem State.withWaitList_mode (ds : List Draft) : (s.withWaitList ds).mode = s.mode := rfl
@[simp] theorem State.withWaitList_paths (ds : List Draft) : (s.withWaitList ds).paths = s.paths := rfl
@[simp] theorem State.withWaitList_freeCount (ds : List Draft) : (s.withWaitList ds).freeCount = s.freeCount := rfl
@[simp] theorem State.withWaitList_pending (ds : List Draft) : (s.withWaitList ds).pending = s.pending := rfl

/-! ### State.firstLevels -/

@[simp] theorem State.firstLevels_timebase (levels : Word) : (s.firstLevels levels).timebase = s.timebase := by simp only [State.firstLevels]
@[simp] theorem State.firstLevels_receiver (levels : Word) : (s.firstLevels levels).receiver = s.receiver := by simp only [State.firstLevels]
@[simp] theorem State.firstLevels_agents (levels : Word) : (s.firstLevels levels).agents = s.agents := by simp only [State.firstLevels]
@[simp] theorem State.firstLevels_counters (levels : Word) : (s.firstLevels levels).counters = s.counters := by simp only [State.firstLevels]
@[simp] theorem State.firstLevels_groups (levels : Word) : (s.firstLevels levels).groups = s.groups := by simp only [State.firstLevels]
@[simp] theorem State.firstLevels_chainTag (levels : Word) : (s.firstLevels levels).chainTag = s.chainTag := by simp only [State.firstLevels]
@[simp] theorem State.firstLevels_queue (levels : Word) : (s.firstLevels levels).queue = s.queue := by simp only [State.firstLevels]
@[simp] theorem State.firstLevels_events (levels : Word) : (s.firstLevels levels).events = s.events := by simp only [State.firstLevels]
@[simp] theorem State.firstLevels_host (levels : Word) : (s.firstLevels levels).host = s.host := by simp only [State.firstLevels]
@[simp] theorem State.firstLevels_bus (levels : Word) : (s.firstLevels levels).bus = s.bus := by simp only [State.firstLevels]
@[simp] theorem State.firstLevels_mode (levels : Word) : (s.firstLevels levels).mode = s.mode := by simp only [State.firstLevels]
@[simp] theorem State.firstLevels_paths (levels : Word) : (s.firstLevels levels).paths = s.paths := by simp only [State.firstLevels]
@[simp] theorem State.firstLevels_freeCount (levels : Word) : (s.firstLevels levels).freeCount = s.freeCount := by simp only [State.firstLevels]
@[simp] theorem State.firstLevels_pending (levels : Word) : (s.firstLevels levels).pending = s.pending := by simp only [State.firstLevels]

@[simp] theorem State.sendTicks_paths : s.sendTicks.paths =
    { s.paths with ticksToEngine := s.paths.ticksToEngine + 1, ticksToReceiver := s.paths.ticksToReceiver + 1 } := rfl
@[simp] theorem State.withResult_host (r : ResultCode) : (s.withResult r).host = { s.host with result := r } := rfl
@[simp] theorem State.withBus_bus (b : Bus) : (s.withBus b).bus = b := rfl
@[simp] theorem State.withBus_withBus (b b' : Bus) : (s.withBus b).withBus b' = s.withBus b' := rfl
@[simp] theorem State.withReception_receiver (r : Reception) :
    (s.withReception r).receiver = { s.receiver with reception := r } := rfl
@[simp] theorem State.withQuiet_receiver (q : Bool) : (s.withQuiet q).receiver = { s.receiver with quiet := q } := rfl
@[simp] theorem State.withWaitList_queue (ds : List Draft) :
    (s.withWaitList ds).queue = { s.queue with waitList := ds } := rfl

/-! ### The record at each number -/

@[simp] theorem State.mapCounters_counter (f : Fin 32 → Counter → Counter) (k : Fin 32) :
    (s.mapCounters f).counter k = f k (s.counter k) := by
  simp [State.counter, State.mapCounters]

@[simp] theorem State.mapGroups_group (f : Fin 8 → Group → Group) (g : Fin 8) :
    (s.mapGroups f).group g = f g (s.group g) := by
  simp [State.group, State.mapGroups]

@[simp] theorem State.mapAgents_agent (f : Fin 8 → Agent → Agent) (a : Fin 8) :
    (s.mapAgents f).agent a = f a (s.agent a) := by
  simp [State.agent, State.mapAgents]

theorem State.modifyCounter_counter (k j : Fin 32) (f : Counter → Counter) :
    (s.modifyCounter k f).counter j = if j = k then f (s.counter k) else s.counter j := by
  by_cases h : j = k
  · subst h; simp [State.counter, State.modifyCounter]
  · have h' : ¬ k.val = j.val := fun e => h (Fin.ext e.symm)
    simp [State.counter, State.modifyCounter, h, h']

theorem State.modifyGroup_group (g h : Fin 8) (f : Group → Group) :
    (s.modifyGroup g f).group h = if h = g then f (s.group g) else s.group h := by
  by_cases e : h = g
  · subst e; simp [State.group, State.modifyGroup]
  · have e' : ¬ g.val = h.val := fun x => e (Fin.ext x.symm)
    simp [State.group, State.modifyGroup, e, e']

theorem State.modifyAgent_agent (a b : Fin 8) (f : Agent → Agent) :
    (s.modifyAgent a f).agent b = if b = a then f (s.agent a) else s.agent b := by
  by_cases e : b = a
  · subst e; simp [State.agent, State.modifyAgent]
  · have e' : ¬ a.val = b.val := fun x => e (Fin.ext x.symm)
    simp [State.agent, State.modifyAgent, e, e']

theorem State.modifyLine_line (n m : Fin 16) (f : Line → Line) :
    (s.modifyLine n f).line m = if m = n then f (s.line n) else s.line m := by
  by_cases e : m = n
  · subst e; simp [State.line, State.modifyLine]
  · have e' : ¬ n.val = m.val := fun x => e (Fin.ext x.symm)
    simp [State.line, State.modifyLine, e, e']

@[simp] theorem State.modifyCounter_counter_same (k : Fin 32) (f : Counter → Counter) :
    (s.modifyCounter k f).counter k = f (s.counter k) := by simp [State.modifyCounter_counter]
@[simp] theorem State.modifyGroup_group_same (g : Fin 8) (f : Group → Group) :
    (s.modifyGroup g f).group g = f (s.group g) := by simp [State.modifyGroup_group]
@[simp] theorem State.modifyAgent_agent_same (a : Fin 8) (f : Agent → Agent) :
    (s.modifyAgent a f).agent a = f (s.agent a) := by simp [State.modifyAgent_agent]
@[simp] theorem State.modifyLine_line_same (n : Fin 16) (f : Line → Line) :
    (s.modifyLine n f).line n = f (s.line n) := by simp [State.modifyLine_line]

@[simp] theorem State.mapMembers_counter (g : Fin 8) (f : Counter → Counter) (k : Fin 32) :
    (s.mapMembers g f).counter k = if (s.counter k).isMember g then f (s.counter k) else s.counter k := by
  simp [State.mapMembers]

@[simp] theorem State.firstLevels_line (levels : Word) (n : Fin 16) :
    (s.firstLevels levels).line n = { s.line n with level := levels.getLsbD n.val } := by
  simp [State.line, State.firstLevels]

/-- A record depends on its vector alone. -/
theorem State.counter_congr {s t : State} (h : t.counters = s.counters) (k : Fin 32) : t.counter k = s.counter k := by
  simp [State.counter, h]
/-- See `State.counter_congr`. -/
theorem State.group_congr {s t : State} (h : t.groups = s.groups) (g : Fin 8) : t.group g = s.group g := by
  simp [State.group, h]
/-- See `State.counter_congr`. -/
theorem State.agent_congr {s t : State} (h : t.agents = s.agents) (a : Fin 8) : t.agent a = s.agent a := by
  simp [State.agent, h]
/-- See `State.counter_congr`. -/
theorem State.line_congr {s t : State} (h : t.lines = s.lines) (n : Fin 16) : t.line n = s.line n := by
  simp [State.line, h]
/-- The member list depends on the counters alone. -/
theorem State.members_congr {s t : State} (h : t.counters = s.counters) (g : Fin 8) : t.members g = s.members g := by
  simp [State.members, State.counter, h]

/-- Two counter tables with the same records are equal. -/
theorem State.counters_ext {s t : State} (h : ∀ k, t.counter k = s.counter k) : t.counters = s.counters :=
  Vector.ext fun i hi => h ⟨i, hi⟩
/-- Two group tables with the same records are equal. -/
theorem State.groups_ext {s t : State} (h : ∀ g, t.group g = s.group g) : t.groups = s.groups :=
  Vector.ext fun i hi => h ⟨i, hi⟩
/-- Two agent tables with the same records are equal. -/
theorem State.agents_ext {s t : State} (h : ∀ a, t.agent a = s.agent a) : t.agents = s.agents :=
  Vector.ext fun i hi => h ⟨i, hi⟩

/-- Membership as the group field says it. -/
@[simp] theorem Counter.isMember_iff (c : Counter) (g : Fin 8) : c.isMember g = true ↔ c.group = some g := by
  simp [Counter.isMember]

/-- Who is on a member list (R64). -/
theorem State.mem_members {s : State} {g : Fin 8} {k : Fin 32} : k ∈ s.members g ↔ (s.counter k).group = some g := by
  simp [State.members, counterIds]

/-- The numbers of all groups, spelt out, for folds over them. -/
theorem groupIds_eq : groupIds = [0, 1, 2, 3, 4, 5, 6, 7] := rfl
/-- See `groupIds_eq`. -/
theorem agentIds_eq : agentIds = [0, 1, 2, 3, 4, 5, 6, 7] := rfl

/-! ### The records at a state whose record is not the vector's -/

@[simp] theorem State.sendLine_counter (n : Fin 16) (i : Fin 32) : (s.sendLine n).counter i = s.counter i := rfl
@[simp] theorem State.sendLine_group (n : Fin 16) (i : Fin 8) : (s.sendLine n).group i = s.group i := rfl
@[simp] theorem State.sendLine_agent (n : Fin 16) (i : Fin 8) : (s.sendLine n).agent i = s.agent i := rfl
@[simp] theorem State.sendLine_line (n : Fin 16) (i : Fin 16) : (s.sendLine n).line i = s.line i := rfl
@[simp] theorem State.sendLink_counter (m : LinkMessage) (i : Fin 32) : (s.sendLink m).counter i = s.counter i := rfl
@[simp] theorem State.sendLink_group (m : LinkMessage) (i : Fin 8) : (s.sendLink m).group i = s.group i := rfl
@[simp] theorem State.sendLink_agent (m : LinkMessage) (i : Fin 8) : (s.sendLink m).agent i = s.agent i := rfl
@[simp] theorem State.sendLink_line (m : LinkMessage) (i : Fin 16) : (s.sendLink m).line i = s.line i := rfl
@[simp] theorem State.sendTicks_counter (i : Fin 32) : (s.sendTicks).counter i = s.counter i := rfl
@[simp] theorem State.sendTicks_group (i : Fin 8) : (s.sendTicks).group i = s.group i := rfl
@[simp] theorem State.sendTicks_agent (i : Fin 8) : (s.sendTicks).agent i = s.agent i := rfl
@[simp] theorem State.sendTicks_line (i : Fin 16) : (s.sendTicks).line i = s.line i := rfl
@[simp] theorem State.sendOverflows_counter (ks : List (Fin 32)) (i : Fin 32) : (s.sendOverflows ks).counter i = s.counter i := rfl
@[simp] theorem State.sendOverflows_group (ks : List (Fin 32)) (i : Fin 8) : (s.sendOverflows ks).group i = s.group i := rfl
@[simp] theorem State.sendOverflows_agent (ks : List (Fin 32)) (i : Fin 8) : (s.sendOverflows ks).agent i = s.agent i := rfl
@[simp] theorem State.sendOverflows_line (ks : List (Fin 32)) (i : Fin 16) : (s.sendOverflows ks).line i = s.line i := rfl
@[simp] theorem State.sendPlacement_counter (g : Fin 8) (i : Fin 32) : (s.sendPlacement g).counter i = s.counter i := rfl
@[simp] theorem State.sendPlacement_group (g : Fin 8) (i : Fin 8) : (s.sendPlacement g).group i = s.group i := rfl
@[simp] theorem State.sendPlacement_agent (g : Fin 8) (i : Fin 8) : (s.sendPlacement g).agent i = s.agent i := rfl
@[simp] theorem State.sendPlacement_line (g : Fin 8) (i : Fin 16) : (s.sendPlacement g).line i = s.line i := rfl
@[simp] theorem State.sendChain_counter (r : ChainRequest) (i : Fin 32) : (s.sendChain r).counter i = s.counter i := rfl
@[simp] theorem State.sendChain_group (r : ChainRequest) (i : Fin 8) : (s.sendChain r).group i = s.group i := rfl
@[simp] theorem State.sendChain_agent (r : ChainRequest) (i : Fin 8) : (s.sendChain r).agent i = s.agent i := rfl
@[simp] theorem State.sendChain_line (r : ChainRequest) (i : Fin 16) : (s.sendChain r).line i = s.line i := rfl
@[simp] theorem State.sendDraft_counter (m : DraftMessage) (i : Fin 32) : (s.sendDraft m).counter i = s.counter i := rfl
@[simp] theorem State.sendDraft_group (m : DraftMessage) (i : Fin 8) : (s.sendDraft m).group i = s.group i := rfl
@[simp] theorem State.sendDraft_agent (m : DraftMessage) (i : Fin 8) : (s.sendDraft m).agent i = s.agent i := rfl
@[simp] theorem State.sendDraft_line (m : DraftMessage) (i : Fin 16) : (s.sendDraft m).line i = s.line i := rfl
@[simp] theorem State.sendAnswer_counter (k : AnswerKind) (g : Fin 8) (i : Fin 32) : (s.sendAnswer k g).counter i = s.counter i := rfl
@[simp] theorem State.sendAnswer_group (k : AnswerKind) (g : Fin 8) (i : Fin 8) : (s.sendAnswer k g).group i = s.group i := rfl
@[simp] theorem State.sendAnswer_agent (k : AnswerKind) (g : Fin 8) (i : Fin 8) : (s.sendAnswer k g).agent i = s.agent i := rfl
@[simp] theorem State.sendAnswer_line (k : AnswerKind) (g : Fin 8) (i : Fin 16) : (s.sendAnswer k g).line i = s.line i := rfl
@[simp] theorem State.receiverNotice_counter (m : Notice) (i : Fin 32) : (s.receiverNotice m).counter i = s.counter i := rfl
@[simp] theorem State.receiverNotice_group (m : Notice) (i : Fin 8) : (s.receiverNotice m).group i = s.group i := rfl
@[simp] theorem State.receiverNotice_agent (m : Notice) (i : Fin 8) : (s.receiverNotice m).agent i = s.agent i := rfl
@[simp] theorem State.receiverNotice_line (m : Notice) (i : Fin 16) : (s.receiverNotice m).line i = s.line i := rfl
@[simp] theorem State.engineNotice_counter (m : Notice) (i : Fin 32) : (s.engineNotice m).counter i = s.counter i := rfl
@[simp] theorem State.engineNotice_group (m : Notice) (i : Fin 8) : (s.engineNotice m).group i = s.group i := rfl
@[simp] theorem State.engineNotice_agent (m : Notice) (i : Fin 8) : (s.engineNotice m).agent i = s.agent i := rfl
@[simp] theorem State.engineNotice_line (m : Notice) (i : Fin 16) : (s.engineNotice m).line i = s.line i := rfl
@[simp] theorem State.queueNotice_counter (m : Notice) (i : Fin 32) : (s.queueNotice m).counter i = s.counter i := rfl
@[simp] theorem State.queueNotice_group (m : Notice) (i : Fin 8) : (s.queueNotice m).group i = s.group i := rfl
@[simp] theorem State.queueNotice_agent (m : Notice) (i : Fin 8) : (s.queueNotice m).agent i = s.agent i := rfl
@[simp] theorem State.queueNotice_line (m : Notice) (i : Fin 16) : (s.queueNotice m).line i = s.line i := rfl
@[simp] theorem State.withResult_counter (r : ResultCode) (i : Fin 32) : (s.withResult r).counter i = s.counter i := rfl
@[simp] theorem State.withResult_group (r : ResultCode) (i : Fin 8) : (s.withResult r).group i = s.group i := rfl
@[simp] theorem State.withResult_agent (r : ResultCode) (i : Fin 8) : (s.withResult r).agent i = s.agent i := rfl
@[simp] theorem State.withResult_line (r : ResultCode) (i : Fin 16) : (s.withResult r).line i = s.line i := rfl
@[simp] theorem State.withBus_counter (b : Bus) (i : Fin 32) : (s.withBus b).counter i = s.counter i := rfl
@[simp] theorem State.withBus_group (b : Bus) (i : Fin 8) : (s.withBus b).group i = s.group i := rfl
@[simp] theorem State.withBus_agent (b : Bus) (i : Fin 8) : (s.withBus b).agent i = s.agent i := rfl
@[simp] theorem State.withBus_line (b : Bus) (i : Fin 16) : (s.withBus b).line i = s.line i := rfl
@[simp] theorem State.mapCounters_group (f : Fin 32 → Counter → Counter) (i : Fin 8) : (s.mapCounters f).group i = s.group i := by simp only [State.group, State.mapCounters_groups]
@[simp] theorem State.mapCounters_agent (f : Fin 32 → Counter → Counter) (i : Fin 8) : (s.mapCounters f).agent i = s.agent i := by simp only [State.agent, State.mapCounters_agents]
@[simp] theorem State.mapCounters_line (f : Fin 32 → Counter → Counter) (i : Fin 16) : (s.mapCounters f).line i = s.line i := by simp only [State.line, State.mapCounters_lines]
@[simp] theorem State.mapGroups_counter (f : Fin 8 → Group → Group) (i : Fin 32) : (s.mapGroups f).counter i = s.counter i := by simp only [State.counter, State.mapGroups_counters]
@[simp] theorem State.mapGroups_agent (f : Fin 8 → Group → Group) (i : Fin 8) : (s.mapGroups f).agent i = s.agent i := by simp only [State.agent, State.mapGroups_agents]
@[simp] theorem State.mapGroups_line (f : Fin 8 → Group → Group) (i : Fin 16) : (s.mapGroups f).line i = s.line i := by simp only [State.line, State.mapGroups_lines]
@[simp] theorem State.mapAgents_counter (f : Fin 8 → Agent → Agent) (i : Fin 32) : (s.mapAgents f).counter i = s.counter i := by simp only [State.counter, State.mapAgents_counters]
@[simp] theorem State.mapAgents_group (f : Fin 8 → Agent → Agent) (i : Fin 8) : (s.mapAgents f).group i = s.group i := by simp only [State.group, State.mapAgents_groups]
@[simp] theorem State.mapAgents_line (f : Fin 8 → Agent → Agent) (i : Fin 16) : (s.mapAgents f).line i = s.line i := by simp only [State.line, State.mapAgents_lines]
@[simp] theorem State.modifyCounter_group (k : Fin 32) (f : Counter → Counter) (i : Fin 8) : (s.modifyCounter k f).group i = s.group i := rfl
@[simp] theorem State.modifyCounter_agent (k : Fin 32) (f : Counter → Counter) (i : Fin 8) : (s.modifyCounter k f).agent i = s.agent i := rfl
@[simp] theorem State.modifyCounter_line (k : Fin 32) (f : Counter → Counter) (i : Fin 16) : (s.modifyCounter k f).line i = s.line i := rfl
@[simp] theorem State.modifyGroup_counter (g : Fin 8) (f : Group → Group) (i : Fin 32) : (s.modifyGroup g f).counter i = s.counter i := rfl
@[simp] theorem State.modifyGroup_agent (g : Fin 8) (f : Group → Group) (i : Fin 8) : (s.modifyGroup g f).agent i = s.agent i := rfl
@[simp] theorem State.modifyGroup_line (g : Fin 8) (f : Group → Group) (i : Fin 16) : (s.modifyGroup g f).line i = s.line i := rfl
@[simp] theorem State.modifyAgent_counter (a : Fin 8) (f : Agent → Agent) (i : Fin 32) : (s.modifyAgent a f).counter i = s.counter i := rfl
@[simp] theorem State.modifyAgent_group (a : Fin 8) (f : Agent → Agent) (i : Fin 8) : (s.modifyAgent a f).group i = s.group i := rfl
@[simp] theorem State.modifyAgent_line (a : Fin 8) (f : Agent → Agent) (i : Fin 16) : (s.modifyAgent a f).line i = s.line i := rfl
@[simp] theorem State.modifyLine_counter (n : Fin 16) (f : Line → Line) (i : Fin 32) : (s.modifyLine n f).counter i = s.counter i := rfl
@[simp] theorem State.modifyLine_group (n : Fin 16) (f : Line → Line) (i : Fin 8) : (s.modifyLine n f).group i = s.group i := rfl
@[simp] theorem State.modifyLine_agent (n : Fin 16) (f : Line → Line) (i : Fin 8) : (s.modifyLine n f).agent i = s.agent i := rfl
@[simp] theorem State.mapMembers_group (g : Fin 8) (f : Counter → Counter) (i : Fin 8) : (s.mapMembers g f).group i = s.group i := by simp only [State.group, State.mapMembers_groups]
@[simp] theorem State.mapMembers_agent (g : Fin 8) (f : Counter → Counter) (i : Fin 8) : (s.mapMembers g f).agent i = s.agent i := by simp only [State.agent, State.mapMembers_agents]
@[simp] theorem State.mapMembers_line (g : Fin 8) (f : Counter → Counter) (i : Fin 16) : (s.mapMembers g f).line i = s.line i := by simp only [State.line, State.mapMembers_lines]
@[simp] theorem State.withReception_counter (r : Reception) (i : Fin 32) : (s.withReception r).counter i = s.counter i := rfl
@[simp] theorem State.withReception_group (r : Reception) (i : Fin 8) : (s.withReception r).group i = s.group i := rfl
@[simp] theorem State.withReception_agent (r : Reception) (i : Fin 8) : (s.withReception r).agent i = s.agent i := rfl
@[simp] theorem State.withReception_line (r : Reception) (i : Fin 16) : (s.withReception r).line i = s.line i := rfl
@[simp] theorem State.withQuiet_counter (q : Bool) (i : Fin 32) : (s.withQuiet q).counter i = s.counter i := rfl
@[simp] theorem State.withQuiet_group (q : Bool) (i : Fin 8) : (s.withQuiet q).group i = s.group i := rfl
@[simp] theorem State.withQuiet_agent (q : Bool) (i : Fin 8) : (s.withQuiet q).agent i = s.agent i := rfl
@[simp] theorem State.withQuiet_line (q : Bool) (i : Fin 16) : (s.withQuiet q).line i = s.line i := rfl
@[simp] theorem State.withWaitList_counter (ds : List Draft) (i : Fin 32) : (s.withWaitList ds).counter i = s.counter i := rfl
@[simp] theorem State.withWaitList_group (ds : List Draft) (i : Fin 8) : (s.withWaitList ds).group i = s.group i := rfl
@[simp] theorem State.withWaitList_agent (ds : List Draft) (i : Fin 8) : (s.withWaitList ds).agent i = s.agent i := rfl
@[simp] theorem State.withWaitList_line (ds : List Draft) (i : Fin 16) : (s.withWaitList ds).line i = s.line i := rfl
@[simp] theorem State.firstLevels_counter (levels : Word) (i : Fin 32) : (s.firstLevels levels).counter i = s.counter i := by simp only [State.counter, State.firstLevels_counters]
@[simp] theorem State.firstLevels_group (levels : Word) (i : Fin 8) : (s.firstLevels levels).group i = s.group i := by simp only [State.group, State.firstLevels_groups]
@[simp] theorem State.firstLevels_agent (levels : Word) (i : Fin 8) : (s.firstLevels levels).agent i = s.agent i := by simp only [State.agent, State.firstLevels_agents]

end Sys2Proof.Machine
end

