-- ==== Sys2Proof/Laws/Ops.lean ====
section
/-! SUPPORT. One lemma for each shared operation that says all it can do: the phases of a host access, commands and commits,
events, answers, captures and the grant step. Proofs cite these and do not unfold the operations. -/

namespace Sys2Proof.Machine

/-! ## Folds -/

/-- What every step of a fold keeps, the fold keeps. -/
theorem foldl_keeps {α β : Type} (P : β → Prop) (f : β → α → β) (hf : ∀ b a, P b → P (f b a)) :
    ∀ (l : List α) (b : β), P b → P (l.foldl f b)
  | [], _, h => h
  | a :: l, b, h => foldl_keeps P f hf l (f b a) (hf b a h)

/-- A projection that every step of a fold leaves alone is what it was. -/
theorem foldl_frame {α β γ : Type} (p : β → γ) (f : β → α → β) (hf : ∀ b a, p (f b a) = p b) (l : List α) (b : β) :
    p (l.foldl f b) = p b :=
  foldl_keeps (fun x => p x = p b) f (fun x a h => (hf x a).trans h) l b rfl

/-! ## Bus cycles -/

/-- The bus of a whole cycle, from FREE or DONE, with nothing unanswered. -/
theorem recognise_answer (s : State) (acc : Access) (word : Option Word) (h : s.busReady = true) :
    (s.bus.recognise s.mode acc false true).answer word = s.busAfter .whole word := by
  obtain ⟨hm, hc⟩ : s.mode = .running ∧ s.bus.cycle ≠ .pending := by simpa [State.busReady] using h
  rw [hm]
  cases hcy : s.bus.cycle with
  | free => simp [Bus.recognise, Bus.answer, State.busAfter, hcy]
  | done => simp [Bus.recognise, Bus.answer, State.busAfter, hcy]
  | pending => exact absurd hcy hc

/-- An access that its owner takes: the effect happens, and the answer is latched, whatever the bus (R158, R159). -/
theorem hostAccess_takes {s : State} {c : CyclePhase} {acc : Access} {mine : State → Bool} {effect : State → State}
    (h : s.takes c acc = true) (hm : mine s = true) (heff : ∀ b : Bus, effect (s.withBus b) = (effect s).withBus b)
    (hbus : (effect s).bus = s.bus) :
    hostAccess c acc mine effect s = .next ((effect s).withBus (s.busAfter c (wordDriven acc (effect s)))) := by
  have hw : ∀ (t : State) (b : Bus), wordDriven acc (t.withBus b) = wordDriven acc t := fun t b => by
    cases acc <;> rfl
  cases c with
  | whole =>
    have hr : s.busReady = true := h
    simp [hostAccess, hr, hm, answerAccess, heff, hw, recognise_answer s acc _ hr]
  | taken =>
    have hp : s.passedOn acc = true := h
    simp [hostAccess, hp, hm, answerAccess, hbus, State.busAfter]
  | begun => simp [State.takes] at h
  | cutShort csHigh => simp [State.takes] at h

/-- Where no effect happens, a host access changes nothing but the bus; else the part runs, the access is the row's, and the
effect happens on the state with some bus. -/
theorem hostAccess_cases {s t : State} {c : CyclePhase} {acc : Access} {mine : State → Bool} {effect : State → State}
    (h : hostAccess c acc mine effect s = .next t) :
    (∃ b : Bus, t = s.withBus b) ∨
      (s.mode = .running ∧ mine s = true ∧ ∃ b b' : Bus, t = (effect (s.withBus b)).withBus b') := by
  cases c with
  | whole =>
    simp only [hostAccess] at h
    split at h
    · rename_i hc
      have hc' : (s.mode = .running ∧ s.bus.cycle ≠ .pending) ∧ mine s = true := by simpa [State.busReady] using hc
      cases h
      exact .inr ⟨hc'.1.1, hc'.2, _, _, rfl⟩
    · cases h; exact .inl ⟨s.bus, rfl⟩
  | begun => simp only [hostAccess] at h; cases h; exact .inl ⟨_, rfl⟩
  | cutShort csHigh =>
    simp only [hostAccess] at h
    split at h <;> cases h <;> exact .inl ⟨_, rfl⟩
  | taken =>
    simp only [hostAccess] at h
    split at h
    · rename_i hc
      have hc' : (s.mode = .running ∧ s.bus.unanswered.map (·.access) = some acc) ∧ mine s = true := by
        simpa [State.passedOn] using hc
      cases h
      exact .inr ⟨hc'.1.1, hc'.2, s.bus, _, rfl⟩
    · cases h; exact .inl ⟨s.bus, rfl⟩

/-- A host access always answers a next state. -/
theorem hostAccess_completes (c : CyclePhase) (acc : Access) (mine : State → Bool) (effect : State → State) (s : State) :
    ∃ t : State, hostAccess c acc mine effect s = .next t := by
  cases c <;> simp only [hostAccess] <;> first | exact ⟨_, rfl⟩ | (split <;> exact ⟨_, rfl⟩)

/-- The bus after a host access: as it was, with the cycle recognised, with the latest cut short, or answered. -/
theorem hostAccess_bus {s t : State} {c : CyclePhase} {acc : Access} {mine : State → Bool} {effect : State → State}
    (hbus : ∀ u : State, (effect u).bus = u.bus) (h : hostAccess c acc mine effect s = .next t) :
    t.bus = s.bus ∨ (∃ cut cs, t.bus = s.bus.recognise s.mode acc cut cs) ∨ (∃ cs, t.bus = s.bus.cutLatest s.mode acc cs) ∨
      (∃ word, t.bus = s.busAfter .whole word ∧ s.busReady = true) ∨
      (∃ word, t.bus = s.bus.answer word ∧ s.bus.unanswered ≠ none) := by
  cases c with
  | whole =>
    simp only [hostAccess] at h
    split at h
    · rename_i hc
      have hr : s.busReady = true := by simp only [Bool.and_eq_true] at hc; exact hc.1
      cases h
      refine .inr (.inr (.inr (.inl ⟨wordDriven acc (effect (s.withBus (s.bus.recognise s.mode acc false true))), ?_, hr⟩)))
      simp [answerAccess, hbus, recognise_answer s acc _ hr]
    · cases h; exact .inl rfl
  | begun => simp only [hostAccess] at h; cases h; exact .inr (.inl ⟨_, _, rfl⟩)
  | cutShort csHigh =>
    simp only [hostAccess] at h
    split at h <;> cases h
    · exact .inr (.inl ⟨_, _, rfl⟩)
    · exact .inr (.inr (.inl ⟨_, rfl⟩))
  | taken =>
    simp only [hostAccess] at h
    split at h
    · rename_i hc
      have hp : s.bus.unanswered.map (·.access) = some acc := by
        simp only [State.passedOn, Bool.and_eq_true, decide_eq_true_eq] at hc; exact hc.1.2
      cases h
      refine .inr (.inr (.inr (.inr ⟨wordDriven acc (effect s), by simp [answerAccess, hbus], ?_⟩)))
      intro hn; simp [hn] at hp
    · cases h; exact .inl rfl

/-- What a move of CSn with no strobe low changes: RDYn's CSn alone. -/
theorem followCs_eq (b : Bus) (csHigh : Bool) : ∃ csLow : Bool, b.followCs csHigh = { b with csLow := csLow } := by
  unfold Bus.followCs; split <;> exact ⟨_, rfl⟩

/-- What BUS_CYCLE_END can do to the bus: DONE ends, a cycle of both strobes ends, or CSn alone has moved (R158, R159). -/
theorem endCycle_cases (b : Bus) (csHigh : Bool) :
    (b.cycle = .done ∧ b.endCycle csHigh = { b with cycle := .free, bothLow := false, csLow := !csHigh, data := none }) ∨
      (b.cycle ≠ .done ∧ b.bothLow = true ∧ b.endCycle csHigh = { b with bothLow := false, csLow := !csHigh }) ∨
      (b.cycle ≠ .done ∧ b.bothLow = false ∧ ∃ csLow : Bool, b.endCycle csHigh = { b with csLow := csLow }) := by
  unfold Bus.endCycle
  by_cases hd : b.cycle = .done
  · exact .inl ⟨hd, if_pos hd⟩
  · rw [if_neg hd]
    by_cases hb : b.bothLow = true
    · exact .inr (.inl ⟨hd, hb, if_pos hb⟩)
    · rw [if_neg hb]
      exact .inr (.inr ⟨hd, Bool.eq_false_iff.mpr hb, followCs_eq b csHigh⟩)

/-! ## Commands and commits -/

/-- An owner that neither reads nor changes the bus. -/
abbrev BusFree (owner : State → State × ResultCode) (s : State) : Prop :=
  (owner s).1.bus = s.bus ∧ ∀ b : Bus, owner (s.withBus b) = ((owner s).1.withBus b, (owner s).2)

/-- A command taken: the owner's effect, and its code in RESULT (R163). -/
theorem command_takes {s : State} {c : CyclePhase} {code op : BitVec 8} {owner : State → State × ResultCode}
    (h : s.takes c (.write 0x04 (cmdWord code op)) = true) (ho : BusFree owner s) :
    command c code op owner s = .next (((owner s).1.withResult (owner s).2).withBus (s.busAfter c none)) := by
  rw [command, hostAccess_takes h rfl (fun b => by rw [ho.2 b]; rfl) (by simp [latchResult, ho.1])]
  rfl

/-- A group command taken: the owner's effect, and its code in RESULT (R66). -/
theorem groupCommand_takes {s : State} {c : CyclePhase} {code : BitVec 8} {g : Fin 8}
    {owner : Fin 8 → State → State × ResultCode} (h : s.takes c (.write 0x04 (groupWord code g)) = true)
    (ho : BusFree (owner g) s) :
    groupCommand c code g owner s =
      .next (((owner g s).1.withResult (owner g s).2).withBus (s.busAfter c none)) := by
  rw [groupCommand, hostAccess_takes h rfl (fun b => by rw [ho.2 b]; rfl) (by simp [latchResult, ho.1])]
  rfl

/-- The state in which an owner judges a commit: the low latch holds the word, and ABSENT is 0 (R168). -/
abbrev State.beforeCommit (s : State) (w : Word) : State :=
  { s with host := { s.host with latchLow := w, absent := false } }

/-- A commit taken: the owner judges the 48-bit value, and its code is in RESULT (R168). -/
theorem tableWrite_takes {s : State} {c : CyclePhase} {w : Word}
    {owners : Option Selection → Option (Latch → State → State × ResultCode)} {f : Latch → State → State × ResultCode}
    (h : s.takes c (.write 0x08 w) = true) (hf : owners s.selected = some f)
    (ho : BusFree (f (s.host.commitValue w)) (s.beforeCommit w)) :
    tableWrite c w owners s = .next
      (((f (s.host.commitValue w) (s.beforeCommit w)).1.withResult
        (f (s.host.commitValue w) (s.beforeCommit w)).2).withBus (s.busAfter c none)) := by
  have hs : commitTo w (owners s.selected) s =
      latchResult (f (s.host.commitValue w) (s.beforeCommit w)) := by rw [hf]; rfl
  have heff : ∀ b : Bus, commitTo w (owners (s.withBus b).selected) (s.withBus b) =
      (latchResult (f (s.host.commitValue w) (s.beforeCommit w))).withBus b := fun b => by
    have hb : owners (s.withBus b).selected = some f := hf
    rw [hb]
    exact congrArg latchResult (ho.2 b)
  rw [tableWrite, hostAccess_takes h (by simp [hf]) (fun b => by rw [heff b, hs])
    (by rw [hs]; simp only [latchResult, State.withResult_bus]; exact ho.1), hs]
  rfl

/-- What a command can do: nothing but to the bus, or the owner's effect with its code in RESULT. -/
theorem command_cases {s t : State} {c : CyclePhase} {code op : BitVec 8} {owner : State → State × ResultCode}
    (h : command c code op owner s = .next t) :
    (∃ b : Bus, t = s.withBus b) ∨
      (s.mode = .running ∧ ∃ b b' : Bus, t = (latchResult (owner (s.withBus b))).withBus b') := by
  obtain h | ⟨hm, -, h⟩ := hostAccess_cases h
  · exact .inl h
  · exact .inr ⟨hm, h⟩

/-- What a group command can do: nothing but to the bus, or the owner's effect with its code in RESULT. -/
theorem groupCommand_cases {s t : State} {c : CyclePhase} {code : BitVec 8} {g : Fin 8}
    {owner : Fin 8 → State → State × ResultCode} (h : groupCommand c code g owner s = .next t) :
    (∃ b : Bus, t = s.withBus b) ∨
      (s.mode = .running ∧ ∃ b b' : Bus, t = (latchResult (owner g (s.withBus b))).withBus b') := by
  obtain h | ⟨hm, -, h⟩ := hostAccess_cases h
  · exact .inl h
  · exact .inr ⟨hm, h⟩

/-- What a commit can do: nothing but to the bus, or the effect of the owner that the selection names. -/
theorem tableWrite_cases {s t : State} {c : CyclePhase} {w : Word}
    {owners : Option Selection → Option (Latch → State → State × ResultCode)} (h : tableWrite c w owners s = .next t) :
    (∃ b : Bus, t = s.withBus b) ∨
      (s.mode = .running ∧ ∃ f, owners s.selected = some f ∧
        ∃ b b' : Bus, t = (commit w f (s.withBus b)).withBus b') := by
  obtain h | ⟨hm, hmine, b, b', h⟩ := hostAccess_cases h
  · exact .inl h
  · obtain ⟨f, hf⟩ := Option.isSome_iff_exists.mp hmine
    have hf' : owners (s.withBus b).selected = some f := hf
    rw [hf'] at h
    exact .inr ⟨hm, f, hf, b, b', h⟩

/-! ## Events -/

@[simp] theorem event_running {s : State} {f : State → State} (h : s.mode = .running) : event s f = .next (f s) := by
  simp [event, h]

@[simp] theorem event_notRunning {s : State} {f : State → State} (h : s.mode ≠ .running) : event s f = .next s := by
  unfold event; split <;> first | rfl | exact absurd ‹_› h

/-- What an event can do: its effect while the part runs, nothing in reset and in recovery. -/
theorem event_cases {s t : State} {f : State → State} (h : event s f = .next t) :
    (s.mode = .running ∧ t = f s) ∨ (s.mode ≠ .running ∧ t = s) := by
  by_cases hm : s.mode = .running
  · rw [event_running hm] at h; cases h; exact .inl ⟨hm, rfl⟩
  · rw [event_notRunning hm] at h; cases h; exact .inr ⟨hm, rfl⟩

/-- An event always answers a next state. -/
theorem event_completes (s : State) (f : State → State) : ∃ t : State, event s f = .next t := by
  unfold event; split <;> exact ⟨_, rfl⟩

/-- What the arrival of an answer can do. -/
theorem answerArrives_cases {s t : State} {kind : AnswerKind} {f : Fin 8 → State → State}
    (h : answerArrives kind f s = .next t) :
    t = s ∨ (s.mode = .running ∧ ∃ g rest, s.paths.answers = ⟨kind, g⟩ :: rest ∧
      t = f g { s with paths := { s.paths with answers := rest } }) := by
  unfold answerArrives frontAnswer at h
  cases ha : s.paths.answers with
  | nil => simp [ha] at h; exact .inl h.symm
  | cons x rest =>
    obtain ⟨k, g⟩ := x
    by_cases hk : k = kind
    · subst hk
      simp only [ha, if_true] at h
      obtain ⟨hm, rfl⟩ | ⟨-, rfl⟩ := event_cases h
      · exact .inr ⟨hm, g, rest, rfl, by simp [popAnswer, ha]⟩
      · exact .inl rfl
    · simp [ha, hk] at h; exact .inl h.symm

/-! ## Counting -/

/-- A saturating count as a number. -/
theorem satInc_toNat {n : Nat} (x : BitVec n) : (satInc x).toNat = min (x.toNat + 1) (2 ^ n - 1) := by
  have hx := x.isLt
  unfold satInc
  split
  · rename_i h; subst h; simp
  · rename_i h
    have : x.toNat ≠ 2 ^ n - 1 := fun e => h (BitVec.eq_of_toNat_eq (by simp [e]))
    have hlt : x.toNat + 1 < 2 ^ n := by omega
    have h1 : (1 : BitVec n).toNat = 1 := (BitVec.toNat_ofNat 1 n).trans (Nat.mod_eq_of_lt (by omega))
    rw [BitVec.toNat_add, h1, Nat.mod_eq_of_lt hlt]
    omega

/-- A saturating sum as a number. -/
theorem satAdd_toNat {n : Nat} (x : BitVec n) (k : Nat) : (satAdd x k).toNat = min (x.toNat + k) (2 ^ n - 1) := by
  have h : 0 < 2 ^ n := Nat.two_pow_pos n
  simp only [satAdd, BitVec.toNat_ofNat]
  exact Nat.mod_eq_of_lt (by omega)

/-! ## Captures -/

/-- The sixth step of a capture changes the chain path and the report path alone. -/
theorem passChain_frame (g : Fin 8) (next : Option (Fin 8)) (tag : BitVec 8) (cause : CaptureCause) (s : State) :
    passChain g next tag cause s = { s with paths := { s.paths with
      chainRequests := (passChain g next tag cause s).paths.chainRequests
      fromEngine := (passChain g next tag cause s).paths.fromEngine } } := by
  unfold passChain
  cases next with
  | none => rfl
  | some n =>
    cases cause with
    | chain r => dsimp only; split <;> rfl
    | host => rfl
    | periodic => rfl
    | overflow set => rfl

/-- The group records after a capture (R93, section 5.2). -/
theorem takeCapture_group (g : Fin 8) (cause : CaptureCause) (s : State) (h : Fin 8) :
    (takeCapture g cause s).group h = if h = g then (s.group g).afterCapture else s.group h := by
  have e : (takeCapture g cause s).groups =
      ((s.mapMembers g fun c => c.captured (s.group g).reloadAfter).modifyGroup g
        fun y => { y with state := y.heldAfter, outstanding := true }).groups := by
    unfold takeCapture; dsimp only; rw [passChain_frame]; rfl
  rw [State.group_congr e, State.modifyGroup_group]
  split
  · simp only [State.mapMembers_group, Group.afterCapture, Group.heldAfter]
    cases (s.group g).state <;> cases (s.group g).holdAfter <;> rfl
  · simp

/-- The counter records after a capture (R92). -/
theorem takeCapture_counter (g : Fin 8) (cause : CaptureCause) (s : State) (k : Fin 32) :
    (takeCapture g cause s).counter k =
      if (s.counter k).group = some g then (s.counter k).captured (s.group g).reloadAfter else s.counter k := by
  have e : (takeCapture g cause s).counters = (s.mapMembers g fun c => c.captured (s.group g).reloadAfter).counters := by
    unfold takeCapture; dsimp only; rw [passChain_frame]; rfl
  rw [State.counter_congr e, State.mapMembers_counter]
  simp [Counter.isMember]

/-- What a capture leaves alone, and the draft it sends (R91, R95). -/
theorem takeCapture_frame (g : Fin 8) (cause : CaptureCause) (s : State) :
    takeCapture g cause s = { s with
      counters := (takeCapture g cause s).counters
      groups := (takeCapture g cause s).groups
      chainTag := s.tagDrawn g cause
      paths := { s.paths with
        draftPath := s.paths.draftPath ++ [.draft (s.draftOf g cause)]
        chainRequests := (takeCapture g cause s).paths.chainRequests
        fromEngine := (takeCapture g cause s).paths.fromEngine } } := by
  unfold takeCapture; dsimp only; rw [passChain_frame]; simp [State.sendDraft, State.modifyGroup, State.mapMembers,
    State.mapCounters]

/-- A missed capture (R99). -/
theorem missCapture_group (g : Fin 8) (s : State) (h : Fin 8) :
    (missCapture g s).group h = if h = g then { s.group g with missed := satInc (s.group g).missed } else s.group h := by
  simp [missCapture, State.modifyGroup_group]

/-! ## The grant step -/

/-- The grant step keeps what a placement of a fitting draft and a replaced wait list keep. -/
theorem grant_keeps (P : State → Prop)
    (hplace : ∀ s d, P s → s.queue.fits d.entries.length = true → P (placeDraft d (some s.timebase.epoch) .placed s))
    (hlist : ∀ s ds, P s → P (s.withWaitList ds)) : ∀ (ds : List Draft) (s : State), P s → P (grant ds s)
  | [], s, h => by simpa [grant] using hlist s [] h
  | d :: rest, s, h => by
    unfold grant
    split
    · rename_i hf; exact grant_keeps P hplace hlist rest _ (hplace s d h hf)
    · exact hlist s _ h

/-- A placement changes the queue, the answer path and the report path of the queue alone. -/
theorem placeDraft_frame (d : Draft) (e : Option Epoch) (answer : AnswerKind) (s : State) :
    placeDraft d e answer s = { s with
      queue := s.queue.place d e
      paths := { s.paths with
        answers := s.paths.answers ++ [⟨answer, d.group⟩]
        fromQueue := s.paths.fromQueue ++
          (if s.queue.watermark.toNat ≤ s.queue.records.length + 1 then [.status .level] else []) ++
          (if d.cause.overflowSet?.isSome then [.status .ovfrec] else []) } } := by
  have hl : (levelEvent (State.sendAnswer { s with queue := s.queue.place d e } answer d.group)) =
      { s with
        queue := s.queue.place d e
        paths := { s.paths with
          answers := s.paths.answers ++ [⟨answer, d.group⟩]
          fromQueue := s.paths.fromQueue ++
            (if s.queue.watermark.toNat ≤ s.queue.records.length + 1 then [.status .level] else []) } } := by
    by_cases hw : s.queue.watermark.toNat ≤ s.queue.records.length + 1 <;>
      simp [levelEvent, State.sendAnswer, Queue.place, State.queueNotice, hw]
  unfold placeDraft
  rw [hl]
  cases d.cause <;> simp [overflowRecordEvent, State.queueNotice, Cause.overflowSet?]

end Sys2Proof.Machine
end

