-- ==== Sys2Proof/Laws/PerInstr.lean ====
section
/-! SUPPORT. A statement about every command as syntax, one lemma for each: the code in the CMD word of a command row. -/

namespace Sys2Proof.Laws

/-- The high byte of a command's word is its code (R162). -/
@[simp] theorem cmdCode_cmdWord (code op : BitVec 8) : cmdCode (cmdWord code op) = code := by
  apply BitVec.eq_of_getLsbD_eq
  intro i hi
  simp only [cmdCode, cmdWord, BitVec.getLsbD_extractLsb', BitVec.getLsbD_append, hi, decide_true, Bool.true_and]
  rw [if_neg (by omega)]
  congr 1
  omega

/-- The low byte of a command's word is its operand (R162). -/
@[simp] theorem cmdOperand_cmdWord (code op : BitVec 8) : cmdOperand (cmdWord code op) = op := by
  apply BitVec.eq_of_getLsbD_eq
  intro i hi
  simp only [cmdOperand, cmdWord, BitVec.getLsbD_extractLsb', BitVec.getLsbD_append, hi, decide_true, Bool.true_and]
  simp [hi]

/-- A word is the command word of its two bytes (R162). -/
theorem cmdWord_of_bytes (w : Word) : cmdWord (cmdCode w) (cmdOperand w) = w := by
  apply BitVec.eq_of_getLsbD_eq
  intro i hi
  simp only [cmdCode, cmdWord, cmdOperand, BitVec.getLsbD_append, BitVec.getLsbD_extractLsb']
  by_cases h : i < 8
  · simp [h]
  · have h1 : i - 8 < 8 := by omega
    have h2 : 8 + (i - 8) = i := by omega
    simp [h, h1, h2]

/-- The high byte of a group command's word is its code (R66). -/
@[simp] theorem cmdCode_groupWord (code : BitVec 8) (g : Fin 8) : cmdCode (groupWord code g) = code := by
  simp [groupWord]

/-- The low byte of a group command's word is its group number (R66). -/
@[simp] theorem cmdOperand_groupWord (code : BitVec 8) (g : Fin 8) : (cmdOperand (groupWord code g)).toNat = g.val := by
  simp only [groupWord, cmdOperand_cmdWord, BitVec.toNat_ofNat]
  omega

/-- A well-formed row that writes CMD carries a code of R163, unless it is UNKNOWN_COMMAND, whose word carries none. -/
def CommandCode.Statement (i : Instr) : Prop :=
  wellFormed i = true → ∀ w : Word, accessOf i = some (.write 0x04 w) →
    (commandCodes.contains (cmdCode w) = true ↔ ∀ c : CyclePhase, i ≠ .unknownCommand c w)

/-- A row that is no write of CMD says nothing. -/
theorem CommandCode.of_other {i : Instr} (h : ∀ w : Word, accessOf i ≠ some (.write 0x04 w)) : CommandCode.Statement i :=
  fun _ w hw => absurd hw (h w)

/-- A row whose CMD word has a code of R163, and is not UNKNOWN_COMMAND. -/
theorem CommandCode.of_code {i : Instr} {v : Word} (ha : accessOf i = some (.write 0x04 v))
    (hc : commandCodes.contains (cmdCode v) = true) (hi : ∀ (c : CyclePhase) (w : Word), i ≠ .unknownCommand c w) :
    CommandCode.Statement i := fun _ w hw => by
  rw [ha] at hw
  cases hw
  exact ⟨fun _ c => hi c v, fun _ => hc⟩

namespace CommandCode

theorem intervalExpiry : Statement .intervalExpiry := of_other fun v h => by cases h
theorem timebaseStart (c : CyclePhase) (op : BitVec 8) :
    Statement (.timebaseStart c op) := of_code rfl (by simp [commandCodes]) (fun _ _ => nofun)
theorem timebaseStop (c : CyclePhase) (op : BitVec 8) :
    Statement (.timebaseStop c op) := of_code rfl (by simp [commandCodes]) (fun _ _ => nofun)
theorem periodCodeWrite (c : CyclePhase) (w : Word) : Statement (.periodCodeWrite c w) := of_other fun v h => by cases h
theorem epochWrite (c : CyclePhase) (w : Word) : Statement (.epochWrite c w) := of_other fun v h => by cases h
theorem lineChange (n : Fin 16) : Statement (.lineChange n) := of_other fun v h => by cases h
theorem lineFieldWrite (c : CyclePhase) (w : Word) : Statement (.lineFieldWrite c w) := of_other fun v h => by cases h
theorem frameComplete (bit : Bool) : Statement (.frameComplete bit) := of_other fun v h => by cases h
theorem quietTimeExpiry : Statement .quietTimeExpiry := of_other fun v h => by cases h
theorem receiverTick : Statement .receiverTick := of_other fun v h => by cases h
theorem agentLost (a : Fin 8) : Statement (.agentLost a) := of_other fun v h => by cases h
theorem receiverEnabledWrite (c : CyclePhase) (w : Word) :
    Statement (.receiverEnabledWrite c w) := of_other fun v h => by cases h
theorem agentEnabledWrite (c : CyclePhase) (w : Word) : Statement (.agentEnabledWrite c w) := of_other fun v h => by cases h
theorem silenceLimitWrite (c : CyclePhase) (w : Word) : Statement (.silenceLimitWrite c w) := of_other fun v h => by cases h
theorem linkRestart (c : CyclePhase) (op : BitVec 8) :
    Statement (.linkRestart c op) := of_code rfl (by simp [commandCodes]) (fun _ _ => nofun)
theorem linkClearCounts (c : CyclePhase) (op : BitVec 8) :
    Statement (.linkClearCounts c op) := of_code rfl (by simp [commandCodes]) (fun _ _ => nofun)
theorem sourceEvent (path : SourcePath) : Statement (.sourceEvent path) := of_other fun v h => by cases h
theorem engineTick : Statement .engineTick := of_other fun v h => by cases h
theorem periodicCause (g : Fin 8) : Statement (.periodicCause g) := of_other fun v h => by cases h
theorem overflowEvent : Statement .overflowEvent := of_other fun v h => by cases h
theorem placedEvent : Statement .placedEvent := of_other fun v h => by cases h
theorem agentDown : Statement .agentDown := of_other fun v h => by cases h
theorem groupStart (c : CyclePhase) (g : Fin 8) :
    Statement (.groupStart c g) := of_code rfl (by simp [commandCodes]) (fun _ _ => nofun)
theorem groupHold (c : CyclePhase) (g : Fin 8) :
    Statement (.groupHold c g) := of_code rfl (by simp [commandCodes]) (fun _ _ => nofun)
theorem groupResume (c : CyclePhase) (g : Fin 8) :
    Statement (.groupResume c g) := of_code rfl (by simp [commandCodes]) (fun _ _ => nofun)
theorem groupStop (c : CyclePhase) (g : Fin 8) :
    Statement (.groupStop c g) := of_code rfl (by simp [commandCodes]) (fun _ _ => nofun)
theorem groupCapture (c : CyclePhase) (g : Fin 8) :
    Statement (.groupCapture c g) := of_code rfl (by simp [commandCodes]) (fun _ _ => nofun)
theorem groupClear (c : CyclePhase) (g : Fin 8) :
    Statement (.groupClear c g) := of_code rfl (by simp [commandCodes]) (fun _ _ => nofun)
theorem groupReload (c : CyclePhase) (g : Fin 8) :
    Statement (.groupReload c g) := of_code rfl (by simp [commandCodes]) (fun _ _ => nofun)
theorem countingReset (c : CyclePhase) (op : BitVec 8) :
    Statement (.countingReset c op) := of_code rfl (by simp [commandCodes]) (fun _ _ => nofun)
theorem chainRequest : Statement .chainRequest := of_other fun v h => by cases h
theorem answerTaken : Statement .answerTaken := of_other fun v h => by cases h
theorem answerWaiting : Statement .answerWaiting := of_other fun v h => by cases h
theorem answerRefused : Statement .answerRefused := of_other fun v h => by cases h
theorem answerPlaced : Statement .answerPlaced := of_other fun v h => by cases h
theorem answerAbandoned : Statement .answerAbandoned := of_other fun v h => by cases h
theorem counterFieldWrite (c : CyclePhase) (w : Word) : Statement (.counterFieldWrite c w) := of_other fun v h => by cases h
theorem counterGroupWrite (c : CyclePhase) (w : Word) : Statement (.counterGroupWrite c w) := of_other fun v h => by cases h
theorem valuePresetWrite (c : CyclePhase) (w : Word) : Statement (.valuePresetWrite c w) := of_other fun v h => by cases h
theorem groupFieldWrite (c : CyclePhase) (w : Word) : Statement (.groupFieldWrite c w) := of_other fun v h => by cases h
theorem draft : Statement .draft := of_other fun v h => by cases h
theorem withdraw : Statement .withdraw := of_other fun v h => by cases h
theorem queueRelease (c : CyclePhase) (op : BitVec 8) :
    Statement (.queueRelease c op) := of_code rfl (by simp [commandCodes]) (fun _ _ => nofun)
theorem queueFlush (c : CyclePhase) (op : BitVec 8) :
    Statement (.queueFlush c op) := of_code rfl (by simp [commandCodes]) (fun _ _ => nofun)
theorem watermarkWrite (c : CyclePhase) (w : Word) : Statement (.watermarkWrite c w) := of_other fun v h => by cases h
theorem errorReport (r : Reporter) : Statement (.errorReport r) := of_other fun v h => by cases h
theorem statusEvent (r : Reporter) : Statement (.statusEvent r) := of_other fun v h => by cases h
theorem irqstatWrite (c : CyclePhase) (w : Word) : Statement (.irqstatWrite c w) := of_other fun v h => by cases h
theorem irqenWrite (c : CyclePhase) (w : Word) : Statement (.irqenWrite c w) := of_other fun v h => by cases h
theorem tableFetch (c : CyclePhase) (offset : BitVec 6) : Statement (.tableFetch c offset) := of_other fun v h => by cases h
theorem readOnlyTableWrite (c : CyclePhase) (w : Word) :
    Statement (.readOnlyTableWrite c w) := of_other fun v h => by cases h
theorem unknownCommand (c : CyclePhase) (w : Word) : Statement (.unknownCommand c w) := by
  intro hw v hv
  cases hv
  have hn : commandCodes.contains (cmdCode w) = false := by simpa [wellFormed, unknownWord] using hw
  exact ⟨fun h => absurd (hn.symm.trans h) Bool.false_ne_true, fun h => absurd rfl (h c)⟩
theorem registerWrite (c : CyclePhase) (offset : BitVec 6) (w : Word) : Statement (.registerWrite c offset w) := by
  intro hw v hv
  have he : offset = 0x04 := by
    have h : some (Access.write offset w) = some (Access.write 0x04 v) := hv
    cases h; rfl
  subst he
  exact absurd (show plainOffset 0x04 = true from hw) (by decide)
theorem bothStrobesLow : Statement .bothStrobesLow := of_other fun v h => by cases h
theorem busCycleEnd (csHigh : Bool) : Statement (.busCycleEnd csHigh) := of_other fun v h => by cases h
theorem heldCyclePassedOn : Statement .heldCyclePassedOn := of_other fun v h => by cases h
theorem deviceReset (c : CyclePhase) (op : BitVec 8) (levels : Word) :
    Statement (.deviceReset c op levels) := of_code rfl (by simp [commandCodes]) (fun _ _ => nofun)
theorem resetnAsserted : Statement .resetnAsserted := of_other fun v h => by cases h
theorem resetRecoveryEnd (c : RecoveryPhase) : Statement (.resetRecoveryEnd c) := of_other fun v h => by cases h
theorem powerUp : Statement .powerUp := of_other fun v h => by cases h
theorem tclkRisingEdge (bit : Bool) : Statement (.tclkRisingEdge bit) := of_other fun v h => by cases h
theorem tableCommitRange (c : CyclePhase) (w : Word) : Statement (.tableCommitRange c w) := of_other fun v h => by cases h
theorem groupOperandRange (c : CyclePhase) (w : Word) : Statement (.groupOperandRange c w) := by
  intro hw v hv
  cases hv
  have hg : groupCommandCodes.contains (cmdCode w) = true := by
    have h : (groupCommandCodes.contains (cmdCode w) && decide (7 < (cmdOperand w).toNat)) = true := hw
    exact (Bool.and_eq_true _ _ ▸ h).1
  have hc : commandCodes.contains (cmdCode w) = true := by
    revert hg
    generalize cmdCode w = x
    revert x
    decide
  exact ⟨fun _ _ => nofun, fun _ => hc⟩
theorem readonlyFieldWrite (c : CyclePhase) (w : Word) :
    Statement (.readonlyFieldWrite c w) := of_other fun v h => by cases h

end CommandCode

end Sys2Proof.Laws
end

