-- ==== Sys2Proof/Tests/Slice0.lean ====
section
/-! SUPPORT. Small tests: the ill-formed terms that `wellFormed` refuses, the words, frames and worked steps of the manual, and
for each obligation with hypotheses concrete states and operands that meet them, clause by clause. -/

namespace Sys2Proof.Tests

open Sys2Proof.Machine

/-! ## Helpers -/

/-- Reset, with a field selected. -/
def sel (tsel : Word) (tfield : BitVec 8) : State :=
  { State.reset with host := { State.reset.host with tsel := tsel, tfield := tfield } }

/-- The upper two latches set. -/
def latched (high mid : Word) (s : State) : State := { s with host := { s.host with latchHigh := high, latchMid := mid } }

/-- An access passed on to its owner, whose strobe has ended or not. -/
def passed (acc : Access) (cut : Bool) (s : State) : State :=
  { s with bus := { s.bus with cycle := .pending, unanswered := some ⟨acc, cut⟩, csLow := true } }

/-- The messages in flight replaced. -/
def flying (p : Paths) : State := { State.reset with paths := p }

/-- Group g's record changed. -/
def grp (g : Fin 8) (f : Group → Group) (s : State) : State := s.modifyGroup g f

/-- Counter k's record changed. -/
def ctr (k : Fin 32) (f : Counter → Counter) (s : State) : State := s.modifyCounter k f

/-- The next state of a command, where it has one. -/
def after (i : Instr) (s : State) : Option State :=
  match exec i s with
  | .next t => some t
  | _ => none

/-- The next state of a step, where it has one. -/
def stepped (s : State) : Option State :=
  match step s with
  | .next t => some t
  | _ => none

/-- Group g in a state. -/
def inState (g : Fin 8) (st : GroupState) : State := grp g (fun x => { x with state := st }) State.reset

/-- A draft of group g with n entries. -/
def aDraft (g : Fin 8) (p : Policy) (n : Nat) : Draft := ⟨g, .host, none, 0, p, List.replicate n ⟨0, 0, false, false⟩⟩

/-- A store of n records with m entries each. -/
def store (n m : Nat) : Queue :=
  { Queue.reset with
    records := List.replicate n ⟨0, .host, none, 0, List.replicate m ⟨0, 0, false, false⟩, 0, none⟩
    valueUse := n * m }

/-! ## Ill-formed terms -/

theorem test_unknown_command_needs_an_unknown_code : wellFormed (.unknownCommand .whole 0x0103) = false := by decide
theorem test_unknown_command_well_formed : wellFormed (.unknownCommand .whole 0x0908) = true := by decide
theorem test_group_operand_range_needs_above_seven : wellFormed (.groupOperandRange .whole 0x0107) = false := by decide
theorem test_group_operand_range_needs_group_command : wellFormed (.groupOperandRange .whole 0x1008) = false := by decide
theorem test_group_operand_range_well_formed : wellFormed (.groupOperandRange .whole 0x0108) = true := by decide
theorem test_register_write_needs_plain_offset :
    [0x02, 0x03, 0x04, 0x08, 0x0C].map (fun o => wellFormed (.registerWrite .whole o 0)) = [false, false, false, false, false] := by
  decide
theorem test_register_write_well_formed : wellFormed (.registerWrite .whole 0x06 0) = true := by decide

/-! ## Words and frames of the manual -/

/-- Words written to CMD in section 9.4 and in the rules of the commands. -/
theorem test_cmd_words :
    writeRow .whole 0 0 0 0x04 0x0103 = .groupStart .whole 3 ∧ writeRow .whole 0 0 0 0x04 0x0503 = .groupCapture .whole 3 ∧
      writeRow .whole 0 0 0 0x04 0x2000 = .timebaseStart .whole 0 ∧ writeRow .whole 0 0 0 0x04 0x2100 = .timebaseStop .whole 0 ∧
      writeRow .whole 0 0 0 0x04 0x3200 = .linkRestart .whole 0 ∧ writeRow .whole 0 0 0 0x04 0x3300 = .linkClearCounts .whole 0 ∧
      writeRow .whole 0 0 0 0x04 0x10FF = .queueRelease .whole 0xFF ∧ writeRow .whole 0 0 0 0x04 0x1100 = .queueFlush .whole 0 ∧
      writeRow .whole 0 0 0 0x04 0x4000 = .countingReset .whole 0 ∧
      writeRow .whole 5 0 0 0x04 0x4F00 = .deviceReset .whole 0 5 ∧
      writeRow .whole 0 0 0 0x04 0x0108 = .groupOperandRange .whole 0x0108 ∧
      writeRow .whole 0 0 0 0x04 0x0908 = .unknownCommand .whole 0x0908 := by decide

/-- Commits by the tables and fields of R169 to R172. -/
theorem test_commit_rows :
    writeRow .whole 0 0x0003 1 0x08 7 = .counterGroupWrite .whole 7 ∧ writeRow .whole 0 0x001F 7 0x08 7 = .valuePresetWrite .whole 7 ∧
      writeRow .whole 0 0x0020 7 0x08 7 = .tableCommitRange .whole 7 ∧ writeRow .whole 0 0x0107 7 0x08 7 = .groupFieldWrite .whole 7 ∧
      writeRow .whole 0 0x0203 3 0x08 7 = .silenceLimitWrite .whole 7 ∧ writeRow .whole 0 0x0203 4 0x08 7 = .readonlyFieldWrite .whole 7 ∧
      writeRow .whole 0 0x0400 2 0x08 7 = .epochWrite .whole 7 ∧ writeRow .whole 0 0x0602 4 0x08 7 = .readOnlyTableWrite .whole 7 ∧
      writeRow .whole 0 0x0603 4 0x08 7 = .tableCommitRange .whole 7 ∧ writeRow .whole 0 0x0900 0 0x08 7 = .tableCommitRange .whole 7 := by
  decide

set_option maxRecDepth 4000 in
/-- The frame of the worked check in chapter 2: 9C50646Fh. -/
theorem test_frame_of_the_manual :
    framePreamble 0x9C50646F = 0b10 ∧ checkPasses 0x9C50646F = true ∧ frameOf 0x9C50646F = ⟨3, 2, false, 5, 100⟩ ∧
      encodeFrame ⟨3, 2, false, 5, 100⟩ = 0x9C50646F := by decide

/-- No row of the opcode table has bits. -/
theorem test_no_word_spells_a_command : decodeTableWord 16 0x0103 = none := rfl

/-! ## Single steps -/

/-- An idle step, and a step of a command (log entries 4 and 6). -/
theorem test_step : step State.reset = .next State.reset ∧
    (stepped { State.reset with pending := [.timebaseStart .whole 0] }).map (fun t =>
      (t.timebase.state, t.pending, t.host.result)) = some (.running 9, [], .ok) := ⟨rfl, by decide⟩

/-- A counter one below its wrap goes to 0 with an event of amount 2, and its OVERFLOW event is sent (R45, R46). -/
theorem test_wrap :
    let s := ctr 4 (fun c => { c with enabled := true, group := some 2, source := .line 1, value := BitVec.allOnes 40 - 1 })
      (inState 2 .running)
    ((applySource (.line 1) 2 s).counter 4).value = 0 ∧ ((applySource (.line 1) 2 s).counter 4).wrapped = true ∧
      (applySource (.line 1) 2 s).paths.overflows = [4] := by decide

/-- A capture of G2 with reload: the draft keeps the value, the counter its preset (R91, R92). -/
theorem test_capture_reloads :
    let s := ctr 4 (fun c => { c with group := some 2, value := 100, preset := 7, stale := true })
      (grp 2 (fun x => { x with state := .running, reloadAfter := true }) State.reset)
    (after (.groupCapture .whole 2) s).map (fun t =>
      (t.paths.draftPath, (t.counter 4).value, (t.counter 4).stale, (t.group 2).outstanding)) =
      some ([.draft ⟨2, .host, none, 0, .wait, [⟨4, 100, false, true⟩]⟩], 7, false, true) := by decide

/-- The gap of R27: expected 14, seen 1, three frames missed. -/
theorem test_gap :
    let s := { State.reset.modifyAgent 3 fun r => { r with enabled := true, state := .active 14 } with
      receiver := { Receiver.reset with enabled := true } }
    ((goodFrame ⟨3, 2, false, 1, 100⟩ s).agent 3).missed = 3 ∧
      (goodFrame ⟨3, 2, false, 1, 100⟩ s).paths.fromReceiver = [.error .seqGap (some 3)] ∧
      (goodFrame ⟨3, 2, false, 1, 100⟩ s).paths.linkToEngine = [.channel 3 2 100] := by decide

/-- A value with bit 40 set is refused with RANGE, and the latches keep it (R56, R168). -/
theorem test_value_range :
    (after (.valuePresetWrite .whole 5) (latched 0x0100 0 (sel 0x0003 7))).map (fun t =>
      (t.host.result, t.host.latchHigh, t.host.latchLow, (t.counter 3).value)) = some (.range, 0x0100, 5, 0) := by decide

/-! ## Hypotheses that hold somewhere -/

/-- An owner takes a whole cycle at reset, and an access passed on before, cut short or not. -/
theorem witness_takes :
    State.reset.takes .whole (.write 0x04 0x2000) = true ∧
      (passed (.write 0x04 0x2000) false State.reset).takes .taken (.write 0x04 0x2000) = true ∧
      (passed (.write 0x04 0x2000) true State.reset).takes .taken (.write 0x04 0x2000) = true ∧
      (passed (.read 0x08) true State.reset).takes .taken (.read 0x08) = true := by decide

theorem witness_WindowWritesRoundTrip :
    wellFormed (.groupStart .taken 7) = true ∧ accessOf (.groupStart .taken 7) = some (.write 0x04 0x0107) ∧
      wellFormed (.registerWrite .whole 0x3F 1) = true ∧ accessOf (.registerWrite .whole 0x3F 1) = some (.write 0x3F 1) := by
  decide

theorem witness_LateTakingHasTheSameEffect : State.reset.busReady = true ∧
    (passed (.write 0x04 0x2000) true State.reset).bus.unanswered.map (·.access) = some (.write 0x04 0x2000) ∧
    (passed (.read 0x0D) true State.reset).bus.unanswered.map (·.access) = some (.read 0x0D) := by decide

/-- A part with one cycle held behind an access whose strobe has ended; a part in recovery. -/
def heldOne (cut : Bool) : State :=
  { passed (.write 0x04 0x2000) true State.reset with
    bus := { (passed (.write 0x04 0x2000) true State.reset).bus with held := [⟨.read 0x08, cut⟩] } }
def recovering : State := { State.reset with mode := .recovering }

theorem witness_HeldAndEndedCycles :
    ((passed (.write 0x04 0x2000) true State.reset).mode = .running ∧
      (passed (.write 0x04 0x2000) true State.reset).bus.cycle = .pending ∧
      (passed (.write 0x04 0x2000) true State.reset).bus.strobeHigh = true) ∧
    (recovering.mode = .recovering ∧ recovering.bus.strobeHigh = true) ∧
    (State.reset.busReady = true ∧ State.reset.bus.strobeHigh = true) ∧
    ((passed (.write 0x04 0x2000) false State.reset).mode ≠ .resetting ∧
      (passed (.write 0x04 0x2000) false State.reset).bus.held = [] ∧
      (passed (.write 0x04 0x2000) false State.reset).bus.unanswered = some ⟨.write 0x04 0x2000, false⟩) ∧
    ((heldOne false).mode ≠ .resetting ∧ (heldOne false).bus.held = [] ++ [⟨.read 0x08, false⟩]) ∧
    (let s : State := { State.reset with bus := { Bus.reset with cycle := .pending, held := [⟨.read 0x08, true⟩] } };
      s.mode = .running ∧ s.bus.unanswered = none ∧ s.bus.held = [⟨.read 0x08, true⟩]) ∧
    (let s : State := { State.reset with bus := { Bus.reset with cycle := .done } };
      s.mode = .running ∧ s.bus.cycle = .done) ∧
    (State.reset.mode ≠ .resetting ∧ State.reset.bus.cycle ≠ .done ∧ State.reset.bus.bothLow = false ∧
      State.reset.bus.strobeHigh = true) ∧
    (State.reset.mode = .running ∧ State.reset.bus.cycle ≠ .pending) ∧
    ((heldOne true).mode = .running ∧ (heldOne true).bus.cycle = .pending ∧ (heldOne true).bus.strobeHigh = true) := by
  decide

/-- After the end of a cycle with CSn low, CSn going high leaves RDYn high-impedance, and CSn going low drives it high (R158). -/
theorem test_rdyn_follows_cs :
    [[false], [false, true], [false, true, false]].map (fun moves =>
      ((moves.foldl (fun s csHigh => s.bind (after (.busCycleEnd csHigh)))
        (after (.tableFetch .whole 0x00) State.reset)).map State.rdyn)) =
      [some .high, some .released, some .high] := by decide

/-- A strobe while RESETn is low is ignored; one in recovery is held with RDYn high, and passed on at its end (R175). -/
theorem test_strobes_in_reset_and_recovery :
    let read (s : Option State) : Option State := s.bind (after (.tableFetch .begun 0x00))
    let low : Option State := read (after .resetnAsserted State.reset)
    let held : Option State := read (low.bind (after (.resetRecoveryEnd .begun)))
    low.map (fun s => (s.rdyn, s.bus.held)) = some (.released, []) ∧
      held.map (fun s => (s.rdyn, s.bus.held)) = some (.high, [⟨.read 0x00, false⟩]) ∧
      (held.bind (after (.resetRecoveryEnd (.ended 0x8001)))).map (fun s =>
        (s.mode, s.bus.unanswered, (s.line 15).level, (s.line 1).level)) =
        some (.running, some ⟨.read 0x00, false⟩, true, false) := by decide

theorem witness_IntervalsAndTicks :
    let s : State := { State.reset with timebase := ⟨.running 15, 9, BitVec.allOnes 48⟩ }
    s.mode = .running ∧ s.timebase.state = .running 15 := by decide

theorem witness_TimebaseCommands :
    let s : State := { State.reset with timebase := ⟨.running 0, 9, 0⟩ }
    State.reset.takes .whole (.write 0x04 (cmdWord 0x20 0)) = true ∧ State.reset.timebase.state = .stopped ∧
      s.takes .whole (.write 0x04 (cmdWord 0x20 0xFF)) = true ∧ s.timebase.state ≠ .stopped ∧
      State.reset.takes .whole (.write 0x04 (cmdWord 0x21 0)) = true ∧
      s.takes .whole (.write 0x04 (cmdWord 0x21 0xFF)) = true := by decide

theorem witness_TimebaseFieldWrites :
    State.reset.takes .whole (.write 0x08 15) = true ∧ (sel 0x0400 1).takes .whole (.write 0x08 15) = true ∧
      (sel 0x0400 1).selected = some (.timebase .periodCode) ∧ ((sel 0x0400 1).host.commitValue 15).toNat ≤ 15 ∧
      15 < ((sel 0x0400 1).host.commitValue 16).toNat ∧ 15 < ((latched 1 0 (sel 0x0400 1)).host.commitValue 0).toNat ∧
      (sel 0x0400 2).selected = some (.timebase .epoch) ∧ (sel 0x0400 2).timebase.state = .stopped ∧
      (let s : State := { sel 0x0400 2 with timebase := ⟨.running 0, 9, 0⟩ };
        s.takes .whole (.write 0x08 0) = true ∧ s.selected = some (.timebase .epoch) ∧ s.timebase.state ≠ .stopped) := by decide

theorem witness_LineChangeReports : State.reset.mode = .running := rfl

theorem witness_LineFieldWrites :
    (sel 0x050F 0).takes .whole (.write 0x08 1) = true ∧ (sel 0x050F 0).selected = some (.line 15 .enabled) ∧
      (sel 0x050F 0).host.commitValue 1 = bit48 true ∧ 1 < ((sel 0x050F 0).host.commitValue 2).toNat ∧
      (sel 0x0500 1).selected = some (.line 0 .edge) ∧ ((sel 0x0500 1).host.commitValue 0).toNat = 0 ∧
      ((sel 0x0500 1).host.commitValue 1).toNat = 1 ∧ ((sel 0x0500 1).host.commitValue 2).toNat = 2 ∧
      2 < ((sel 0x0500 1).host.commitValue 3).toNat ∧ (sel 0x0500 2).selected = some (.line 0 .level) := by decide

/-- Reset, with a reception state. -/
def receiving (r : Reception) : State :=
  { State.reset with receiver := { Receiver.reset with enabled := true, reception := r } }

theorem witness_TclkEdgeByReception :
    (receiving .wait).mode = .running ∧ (receiving .off).receiver.reception = .off ∧
      (receiving .sync).receiver.reception = .sync ∧ (receiving .wait).receiver.reception = .wait ∧
      (receiving (.receiving 0 0)).receiver.reception = .receiving (Fin.castSucc (0 : Fin 31)) 0 ∧
      (receiving (.receiving 30 0)).receiver.reception = .receiving (Fin.castSucc (30 : Fin 31)) 0 := by decide

set_option maxRecDepth 4000 in
/-- The frame 9C50646Fh without its last bit, which is 1; and that frame with a wrong preamble, and with a wrong check. -/
theorem witness_BadFramesAreCounted :
    let f (bits : BitVec 32) : BitVec 32 := (bits <<< 1) ||| (BitVec.ofBool true).setWidth 32
    (receiving (.receiving 31 0x4E283237)).mode = .running ∧
      (receiving (.receiving 31 0x4E283237)).receiver.reception = .receiving 31 0x4E283237 ∧
      framePreamble (f 0x0E283237) ≠ 0b10 ∧ (framePreamble (f 0x4E283236) = 0b10 ∧ checkPasses (f 0x4E283236) = false) ∧
      framePreamble (f 0x4E283237) = 0b10 ∧ checkPasses (f 0x4E283237) = true ∧
      ((receiving (.receiving 31 0x4E283237)).agent (frameOf (f 0x4E283237)).agent).enabled = false := by decide

set_option maxRecDepth 4000 in
theorem witness_GoodFramesAreAccepted :
    let f : BitVec 32 := (0x4E283237 <<< 1) ||| (BitVec.ofBool true).setWidth 32
    let s (st : AgentState) : State :=
      (receiving (.receiving 31 0x4E283237)).modifyAgent 3 fun r => { r with enabled := true, state := st }
    (s .silent).mode = .running ∧ (s .lost).receiver.reception = .receiving 31 0x4E283237 ∧ framePreamble f = 0b10 ∧
      checkPasses f = true ∧ ((s .silent).agent (frameOf f).agent).enabled = true ∧
      ((s .silent).agent (frameOf f).agent).state = .silent ∧ ((s .lost).agent (frameOf f).agent).state = .lost ∧
      ((s (.active 5)).agent (frameOf f).agent).state = .active 5 ∧ (frameOf f).sequence = 5 ∧
      ((s (.active 6)).agent (frameOf f).agent).state = .active 6 ∧ (frameOf f).sequence ≠ 6 := by decide

theorem witness_QuietExpiryByReception :
    (receiving .sync).mode = .running ∧ (receiving (.receiving 31 7)).receiver.reception = .receiving 31 7 ∧
      (receiving .sync).receiver.reception = .sync ∧ (receiving .wait).receiver.reception = .wait ∧
      State.reset.receiver.reception = .off := by decide

/-- A tick in flight to the receiver, and agent 7 one tick from its limit. -/
def tickAtLimit : State :=
  { State.reset.modifyAgent 7 fun r => { r with enabled := true, state := .active 0, silenceLimit := 1 } with
    paths := { Paths.empty with ticksToReceiver := 1 } }

theorem witness_ReceiverTickAgesAgents :
    tickAtLimit.mode = .running ∧ tickAtLimit.paths.ticksToReceiver ≠ 0 ∧ (7 : Fin 8) ∈ tickAtLimit.lostAtTick := by decide

theorem witness_LinkFieldWrites :
    ((sel 0x0300 0).takes .whole (.write 0x08 1) = true ∧ (sel 0x0300 0).selected = some (.receiver .enabled) ∧
      (sel 0x0300 3).selected = some (.receiver .unexpected) ∧ 1 < ((sel 0x0300 0).host.commitValue 2).toNat ∧
      (sel 0x0300 0).host.commitValue 0 = bit48 (sel 0x0300 0).receiver.enabled ∧
      (sel 0x0300 0).host.commitValue 1 = 1 ∧ (sel 0x0300 0).receiver.enabled = false) ∧
    (let s : State := { sel 0x0300 0 with receiver := { Receiver.reset with enabled := true, reception := .sync } };
      s.takes .whole (.write 0x08 0) = true ∧ s.selected = some (.receiver .enabled) ∧ s.host.commitValue 0 = 0 ∧
        s.receiver.enabled = true) ∧
    ((sel 0x0207 3).selected = some (.agent 7 .silenceLimit) ∧ ((sel 0x0207 3).host.commitValue 255).toNat ≤ 255 ∧
      255 < ((sel 0x0207 3).host.commitValue 256).toNat) ∧
    ((sel 0x0207 0).selected = some (.agent 7 .enabled) ∧ 1 < ((sel 0x0207 0).host.commitValue 2).toNat ∧
      (sel 0x0207 0).host.commitValue 0 = bit48 ((sel 0x0207 0).agent 7).enabled ∧ (sel 0x0207 0).host.commitValue 1 = 1 ∧
      ((sel 0x0207 0).agent 7).enabled = false) ∧
    (let s : State := (sel 0x0207 0).modifyAgent 7 fun r => { r with enabled := true, state := .active 3 };
      s.takes .whole (.write 0x08 0) = true ∧ s.selected = some (.agent 7 .enabled) ∧ s.host.commitValue 0 = 0 ∧
        (s.agent 7).enabled = true) := by decide

theorem witness_LinkCommands :
    State.reset.takes .whole (.write 0x04 (cmdWord 0x32 0)) = true ∧
      State.reset.takes .whole (.write 0x04 (cmdWord 0x33 0)) = true := by decide

theorem witness_AgentDownMarksStale :
    (flying { Paths.empty with linkToEngine := [.agentDown 7] }).mode = .running ∧
      (flying { Paths.empty with linkToEngine := [.agentDown 7] }).paths.linkToEngine = [.agentDown 7] := by decide

theorem witness_SourceEventsAreApplied :
    let s := flying { Paths.empty with
      lineEvents := [15], linkToEngine := [.channel 7 3 4095], overflows := [31], placements := [7] }
    s.mode = .running ∧ s.paths.lineEvents = [15] ∧ s.paths.linkToEngine = [.channel 7 3 4095] ∧ s.paths.overflows = [31] ∧
      s.paths.placements = [7] := by decide

theorem witness_CounterTakesEvent :
    let c := { Counter.reset with bandLow := 5, bandHigh := 9, value := BitVec.allOnes 40 }
    c.increment 0 = none ∧ c.increment 4095 = some 4095 ∧ 2 ^ 40 - 1 < c.value.toNat + 1 ∧
      Counter.reset.value.toNat + 4095 ≤ 2 ^ 40 - 1 ∧ { c with mode := .inBand }.increment 9 = some 1 ∧
      { c with mode := .outBand }.increment 10 = some 1 ∧ { c with mode := .enterBand }.increment 5 = some 1 := by decide

theorem witness_StallLossReports :
    let s : State := ctr 31 (fun c => { c with enabled := true, group := some 7, source := .line 15 })
      (grp 7 (fun x => { x with state := .stalled .held }) (flying { Paths.empty with
        lineEvents := [15], linkToEngine := [.channel 0 0 0], overflows := [31], placements := [7] }))
    s.mode = .running ∧ (frontSource .lines s).map (fun f => (f.1, f.2.1)) = some (.line 15, 1) ∧
      (frontSource .link s).map (fun f => (f.1, f.2.1)) = some (.channel 0 0, 0) ∧ s.paths.overflows = [31] ∧
      s.paths.placements = [7] ∧ s.losses (.line 15) 1 7 = 1 ∧ (s.group 7).stallNoted = false := by decide

set_option maxRecDepth 4000 in
/-- Two captures of one tick start chains: the lower group draws the lower tag, and each sends its first request (R111, R112). -/
theorem test_tick_draws_tags_in_order :
    let timed (g next : Fin 8) : State → State :=
      grp g fun x => { x with state := .running, period := 3, countdown := 1, chainNext := some next }
    (after .engineTick (timed 5 0 (timed 2 7 { flying { Paths.empty with ticksToEngine := 1 } with chainTag := 255 }))).map
        (fun t => (t.chainTag, t.paths.chainRequests)) =
      some (1, [⟨2, 255, [2], 1, 7⟩, ⟨5, 0, [5], 1, 0⟩]) := by decide

theorem witness_EngineTickCountsDown :
    let s : State := { grp 7 (fun x => { x with state := .running, period := 1, countdown := 1 }) State.reset with
      paths := { Paths.empty with ticksToEngine := 1 } }
    let p : State := { s with paths := { s.paths with ticksToEngine := s.paths.ticksToEngine - 1 } }
    let m : State := s.modifyGroup 7 fun x => { x with outstanding := true }
    let mp : State := { m with paths := { m.paths with ticksToEngine := m.paths.ticksToEngine - 1 } }
    s.mode = .running ∧ s.paths.ticksToEngine ≠ 0 ∧ ((applySource .tick 1 p).group 7).takesPeriodic = true ∧
      m.mode = .running ∧ m.paths.ticksToEngine ≠ 0 ∧ ((applySource .tick 1 mp).group 7).missesPeriodic = true := by decide

theorem witness_CaptureTakingInSixSteps :
    let s (n : Option (Fin 8)) : State := grp 0 (fun x => { x with state := .running, chainNext := n }) State.reset
    let r : ChainRequest := ⟨1, 0, [1], 1, 0⟩
    ((s none).group 0).chainNext = none ∧ ((s (some 7)).group 0).chainNext = some 7 ∧ r.visited.Nodup ∧
      (1 : Fin 8) ∈ addVisited 0 r.visited ∧ (7 : Fin 8) ∉ addVisited 0 r.visited := by decide

theorem witness_GroupCaptureJudged :
    let out : State := grp 7 (fun x => { x with state := .held, outstanding := true }) State.reset
    (inState 7 .running).takes .whole (.write 0x04 (groupWord 0x05 7)) = true ∧
      ((inState 7 .running).group 7).state.isLive = true ∧ ((inState 7 .running).group 7).outstanding = false ∧
      out.takes .whole (.write 0x04 (groupWord 0x05 7)) = true ∧ (out.group 7).state ≠ .idle ∧
      (out.group 7).outstanding = true ∧ State.reset.takes .whole (.write 0x04 (groupWord 0x05 7)) = true ∧
      (State.reset.group 7).state = .idle := by decide

theorem witness_ChainRequestAtTarget :
    let p : Paths := { Paths.empty with chainRequests := [⟨1, 0, [1], 1, 7⟩] }
    let s (f : Group → Group) : State := grp 7 f (flying p)
    (s id).mode = .running ∧ (s id).paths.chainRequests = [⟨1, 0, [1], 1, 7⟩] ∧ ((s id).group 7).state = .idle ∧
      ((s fun x => { x with state := .held }).group 7).state.isLive = true ∧
      ((s fun x => { x with state := .held }).group 7).outstanding = false ∧
      ((s fun x => { x with state := .stalled .held, outstanding := true }).group 7).state ≠ .idle ∧
      ((s fun x => { x with state := .stalled .held, outstanding := true }).group 7).outstanding = true := by decide

theorem witness_GroupStartJudged :
    let out : State := grp 7 (fun x => { x with outstanding := true }) State.reset
    (inState 7 .held).takes .whole (.write 0x04 (groupWord 0x01 7)) = true ∧ ((inState 7 .held).group 7).state ≠ .idle ∧
      out.takes .whole (.write 0x04 (groupWord 0x01 7)) = true ∧ (out.group 7).state = .idle ∧
      (out.group 7).outstanding = true ∧ State.reset.takes .whole (.write 0x04 (groupWord 0x01 0)) = true ∧
      (State.reset.group 0).state = .idle ∧ (State.reset.group 0).outstanding = false := by decide

theorem witness_GroupHoldAndResume :
    (∀ st : GroupState, st ∈ [.idle, .running, .held, .stalled .running, .stalled .held] →
      ((inState 7 st).group 7).state = st) ∧
    (inState 7 (.stalled .held)).takes .whole (.write 0x04 (groupWord 0x02 7)) = true ∧
    (inState 7 (.stalled .held)).takes .whole (.write 0x04 (groupWord 0x03 7)) = true := by
  refine ⟨fun st _ => ?_, by decide, by decide⟩
  simp [inState, grp]

theorem witness_GroupStopWithdraws :
    State.reset.takes .whole (.write 0x04 (groupWord 0x04 7)) = true ∧ (State.reset.group 7).state = .idle ∧
      (inState 7 (.stalled .held)).takes .whole (.write 0x04 (groupWord 0x04 7)) = true ∧
      ((inState 7 (.stalled .held)).group 7).state ≠ .idle := by decide

theorem witness_GroupClearAndReload :
    State.reset.takes .whole (.write 0x04 (groupWord 0x06 7)) = true ∧
      State.reset.takes .whole (.write 0x04 (groupWord 0x07 7)) = true ∧ (State.reset.group 7).state = .idle ∧
      ((inState 7 .held).group 7).state = .held ∧
      ¬(((inState 7 .running).group 7).state = .idle ∨ ((inState 7 .running).group 7).state = .held) := by decide

theorem witness_CountingResetEverywhere : State.reset.takes .whole (.write 0x04 (cmdWord 0x40 0)) = true := by decide

theorem witness_AnswersAtGroup :
    let s (k : AnswerKind) (st : GroupState) : State :=
      grp 7 (fun x => { x with state := st, outstanding := true }) (flying { Paths.empty with answers := [⟨k, 7⟩] })
    (s .taken .running).mode = .running ∧ (s .taken .running).paths.answers = [⟨.taken, 7⟩] ∧
      (s .refused .held).paths.answers = [⟨.refused, 7⟩] ∧ (s .abandoned .idle).paths.answers = [⟨.abandoned, 7⟩] ∧
      (s .placed .idle).paths.answers = [⟨.placed, 7⟩] ∧ ((s .placed .idle).group 7).state.isStalled = false ∧
      ((s .placed (.stalled .running)).group 7).state = .stalled .running ∧
      ((s .placed (.stalled .held)).group 7).state = .stalled .held ∧
      (s .waiting .running).paths.answers = [⟨.waiting, 7⟩] ∧ ((s .waiting .running).group 7).state = .running ∧
      ((s .waiting .held).group 7).state = .held ∧ ((s .waiting .idle).group 7).state = .idle := by decide

theorem witness_CounterFieldWrites :
    let locked (f : BitVec 8) : State := grp 7 (fun x => { x with state := .held })
      (ctr 31 (fun c => { c with group := some 7 }) (sel 0x001F f))
    ((sel 0x001F 9).takes .whole (.write 0x08 0) = true ∧ (sel 0x001F 9).selected = some (.counter 31 .inside)) ∧
    ((locked 0).takes .whole (.write 0x08 0) = true ∧ (locked 0).selected = some (.counter 31 .enabled) ∧
      ((locked 0).counter 31).group = some 7 ∧ ((locked 0).group 7).state ≠ .idle) ∧
    ((sel 0x001F 0).selected = some (.counter 31 .enabled) ∧ ((sel 0x001F 0).counter 31).group = none ∧
      (sel 0x001F 0).host.commitValue 1 = bit48 true ∧ 1 < ((sel 0x001F 0).host.commitValue 2).toNat) ∧
    ((sel 0x001F 6).selected = some (.counter 31 .overflowCapture) ∧ (sel 0x001F 2).selected = some (.counter 31 .source) ∧
      (sel 0x001F 2).host.commitValue 0x87 = num (sourceCode (.placed 7)) ∧
      (sel 0x001F 2).host.commitValue 0x7F = num (sourceCode (.overflow 31))) ∧
    sourceOf ((sel 0x001F 2).host.commitValue 0x88) = none ∧
    ((sel 0x001F 3).selected = some (.counter 31 .mode) ∧ (sel 0x001F 3).host.commitValue 3 = modeCode .enterBand ∧
      3 < ((sel 0x001F 3).host.commitValue 4).toNat) ∧
    ((sel 0x001F 4).selected = some (.counter 31 .bandLow) ∧
      ((sel 0x001F 4).host.commitValue 4095).toNat ≤ ((sel 0x001F 4).counter 31).bandHigh.toNat ∧
      ((sel 0x001F 4).counter 31).bandHigh.toNat < ((sel 0x001F 4).host.commitValue 4096).toNat) ∧
    ((sel 0x001F 5).selected = some (.counter 31 .bandHigh) ∧
      ((sel 0x001F 5).counter 31).bandLow.toNat ≤ ((sel 0x001F 5).host.commitValue 0).toNat ∧
      4095 < ((sel 0x001F 5).host.commitValue 4096).toNat) := by decide

/-- A number above the source codes is no code of the catalogue (R15). -/
theorem witness_no_source_code : ∀ src : Source, num 0x88 ≠ num (sourceCode src) := by
  intro src h
  have hs : sourceCode src < 0x88 := by
    cases src <;> simp only [sourceCode] <;> omega
  have ht := congrArg BitVec.toNat h
  simp only [num, BitVec.toNat_ofNat] at ht
  omega

/-- Group 7 with eight members, and counter 31 selected. -/
def fullGroup : State := (sel 0x001F 1).mapCounters fun k c => if k.val < 8 then { c with group := some 7 } else c

theorem witness_CounterGroupWrites :
    (fullGroup.takes .whole (.write 0x08 7) = true ∧ fullGroup.selected = some (.counter 31 .group) ∧
      fullGroup.host.commitValue 7 = num (7 : Fin 8).val ∧ (fullGroup.counter 31).group ≠ some 7 ∧
      8 ≤ (fullGroup.members 7).length ∧ ∀ g : Fin 8, (fullGroup.group g).state = .idle) ∧
    (7 < (fullGroup.host.commitValue 8).toNat ∧ (fullGroup.host.commitValue 8).toNat ≠ 15 ∧
      (fullGroup.host.commitValue 15).toNat = 15 ∧ fullGroup.host.commitValue 6 = num (6 : Fin 8).val ∧
      (fullGroup.members 6).length < 8) ∧
    (let s : State := grp 6 (fun x => { x with state := .running }) fullGroup;
      s.takes .whole (.write 0x08 6) = true ∧ s.selected = some (.counter 31 .group) ∧
        s.host.commitValue 6 = num (6 : Fin 8).val ∧ (s.group 6).state ≠ .idle) := by decide

theorem witness_ValuePresetWrites :
    let locked : State := grp 7 (fun x => { x with state := .running })
      (ctr 31 (fun c => { c with group := some 7 }) (sel 0x001F 8))
    (locked.takes .whole (.write 0x08 0) = true ∧ locked.selected = some (.counter 31 .preset) ∧
      (locked.counter 31).group = some 7 ∧ (locked.group 7).state = .running) ∧
    ((sel 0x001F 7).takes .whole (.write 0x08 0xFFFF) = true ∧ (sel 0x001F 7).selected = some (.counter 31 .value) ∧
      ((sel 0x001F 7).counter 31).group = none ∧
      2 ^ 40 ≤ ((latched 0x0100 0 (sel 0x001F 7)).host.commitValue 0).toNat ∧
      ((latched 0x00FF 0xFFFF (sel 0x001F 7)).host.commitValue 0xFFFF).toNat < 2 ^ 40) := by decide

theorem witness_GroupFieldWrites :
    let locked : State := grp 7 (fun x => { x with state := .held }) (sel 0x0107 3)
    ((sel 0x0107 0).takes .whole (.write 0x08 0) = true ∧ (sel 0x0107 0).selected = some (.group 7 .state)) ∧
    (locked.takes .whole (.write 0x08 0) = true ∧ locked.selected = some (.group 7 .policy) ∧
      (locked.group 7).state ≠ .idle) ∧
    ((sel 0x0107 3).selected = some (.group 7 .policy) ∧ ((sel 0x0107 3).group 7).state = .idle ∧
      ((sel 0x0107 3).host.commitValue 0).toNat = 0 ∧ ((sel 0x0107 3).host.commitValue 1).toNat = 1 ∧
      1 < ((sel 0x0107 3).host.commitValue 2).toNat) ∧
    ((sel 0x0107 4).selected = some (.group 7 .holdAfter) ∧ (sel 0x0107 5).selected = some (.group 7 .reloadAfter) ∧
      (sel 0x0107 4).host.commitValue 1 = bit48 true) ∧
    ((sel 0x0107 6).selected = some (.group 7 .period) ∧ ((sel 0x0107 6).host.commitValue 65535).toNat ≤ 65535 ∧
      65535 < ((latched 0 1 (sel 0x0107 6)).host.commitValue 0).toNat) ∧
    ((sel 0x0107 8).selected = some (.group 7 .chainNext) ∧ 7 < ((sel 0x0107 8).host.commitValue 8).toNat ∧
      ((sel 0x0107 8).host.commitValue 8).toNat ≠ 15 ∧ (sel 0x0107 8).host.commitValue 7 = num (7 : Fin 8).val ∧
      ((sel 0x0107 8).host.commitValue 15).toNat = 15 ∧ (sel 0x0107 8).host.commitValue 6 = num (6 : Fin 8).val) := by decide

/-- A draft of group 7 at the front of the draft path, and a store. -/
def arriving (d : Draft) (q : Queue) : State :=
  { State.reset with queue := q, paths := { Paths.empty with draftPath := [.draft d] } }

theorem witness_DraftPlacedAtOnce :
    let s := arriving (aDraft 7 .wait 8) (store 62 4)
    s.mode = .running ∧ s.paths.draftPath = [.draft (aDraft 7 .wait 8)] ∧ s.queue.waitList = [] ∧
      s.queue.records.length < 64 ∧ s.queue.valueUse + (aDraft 7 .wait 8).entries.length ≤ 256 := by decide

theorem witness_DraftWaitsOrIsRefused :
    let d (p : Policy) : Draft := aDraft 7 p 8
    (arriving (d .wait) (store 64 1)).mode = .running ∧
      (arriving (d .wait) (store 64 1)).paths.draftPath = [.draft (d .wait)] ∧
      64 ≤ (arriving (d .wait) (store 64 1)).queue.records.length ∧ (d .wait).policy = .wait ∧
      256 < (arriving (d .drop) (store 50 5)).queue.valueUse + (d .drop).entries.length ∧ (d .drop).policy = .drop ∧
      (arriving (d .drop) { store 1 1 with waitList := [d .wait] }).queue.waitList ≠ [] := by decide

theorem witness_GrantStepPlacesInOrder :
    let q : Queue := { store 63 1 with waitList := [aDraft 7 .wait 8, aDraft 6 .wait 0] }
    grantable q q.waitList = [aDraft 7 .wait 8] ∧ (q.waitList.drop 1).head? = some (aDraft 6 .wait 0) := by decide

theorem witness_WithdrawAbandonsWaitingDraft :
    let s (ds : List Draft) : State :=
      { State.reset with queue := { Queue.reset with waitList := ds }, paths := { Paths.empty with draftPath := [.withdraw 7] } }
    (s []).mode = .running ∧ (s []).paths.draftPath = [.withdraw 7] ∧ (∀ d ∈ (s []).queue.waitList, d.group ≠ 7) ∧
      (s [aDraft 6 .wait 0, aDraft 7 .wait 8]).queue.waitList = [aDraft 6 .wait 0] ++ aDraft 7 .wait 8 :: [] ∧
      (aDraft 7 .wait 8).group = 7 ∧ (aDraft 6 .wait 0).group ≠ 7 := by decide

theorem witness_ReleaseAndFlush :
    let s : State := { State.reset with queue := store 1 8 }
    State.reset.takes .whole (.write 0x04 (cmdWord 0x10 0)) = true ∧ State.reset.queue.records = [] ∧
      s.takes .whole (.write 0x04 (cmdWord 0x10 0xFF)) = true ∧ s.queue.records ≠ [] ∧
      s.takes .whole (.write 0x04 (cmdWord 0x11 0)) = true ∧
      (let q : Queue := { Queue.reset with waitList := List.replicate 8 (aDraft 7 .wait 8) };
        q.records = [] ∧ q.valueUse = 0 ∧ q.waitList.length ≤ 8 ∧ ∀ d ∈ q.waitList, d.entries.length ≤ 8) := by decide

theorem witness_WatermarkWrites :
    State.reset.takes .whole (.write 0x0C 1) = true ∧ State.reset.takes .whole (.write 0x0C 64) = true ∧
      State.reset.takes .whole (.write 0x0C 65) = true ∧ State.reset.takes .whole (.write 0x0C 0) = true := by decide

theorem witness_ErrorReportsAreKept :
    let s : State := flying { Paths.empty with fromReceiver := [.error .check none] }
    let e : EventController := { EventController.reset with link := .detected ⟨.framing, none, 7⟩ 255 }
    s.mode = .running ∧ frontNotice .receiver s = some (.error .check none, State.reset) ∧
      s.events.classRecord ErrorKind.check.errorClass = .clear ∧
      ({ s with events := e } : State).events.classRecord ErrorKind.check.errorClass = .detected ⟨.framing, none, 7⟩ 255 ∧
      s.paths.fromReceiver = [.error .check none] ∧
      (flying { Paths.empty with fromEngine := [.error .missed (some 7)] }).paths.fromEngine = [.error .missed (some 7)] ∧
      (flying { Paths.empty with fromQueue := [.status .wait] }).paths.fromQueue = [.status .wait] := by decide

theorem witness_StatusEventsSetFlags :
    let s : State := flying { Paths.empty with fromQueue := [.status .ovfrec] }
    s.mode = .running ∧ frontNotice .queue s = some (.status .ovfrec, State.reset) ∧ s.events.isSet .ovfrec = false ∧
      ({ s with events := { s.events with ovfrec := true } } : State).events.isSet .ovfrec = true := by decide

theorem witness_InterruptRegisterWrites :
    State.reset.takes .whole (.write 0x02 0xFFFF) = true ∧ State.reset.takes .whole (.write 0x03 0x007F) = true := by decide

theorem witness_WindowReads :
    State.reset.takes .whole (.read 0x00) = true ∧ (0x00 : BitVec 6) ≠ 0x08 ∧ State.reset.takes .whole (.read 0x3F) = true ∧
      (passed (.read 0x0B) true State.reset).takes .taken (.read 0x0B) = true ∧ (0x0B : BitVec 6) ≠ 0x08 ∧
      State.reset.queue.Sound := by decide

/-- CAPS is 77F7h on the data lines (R161), and RESULT is as it was (R164). -/
theorem test_read_caps :
    (after (.tableFetch .whole 0x01) State.reset).map (fun t => (t.bus.data, t.host.result)) = some (some 0x77F7, .ok) := by
  decide

theorem witness_TableFetch :
    (sel 0x0207 2).takes .whole (.read 0x08) = true ∧ (fetch (sel 0x0207 2) (sel 0x0207 2).selected).absent = true ∧
      (sel 0x0208 2).takes .whole (.read 0x08) = true ∧ (sel 0x0208 2).selected = none ∧
      ([32, 8, 8, 1, 1, 16, 3, 1, 8].getD 6 0 ≤ 3 ∧ [32, 8, 8, 1, 1, 16, 3, 1, 8].getD 255 0 ≤ 0) ∧
      ((inState 7 (.stalled .held)).group 7).state = .stalled .held ∧
      (State.reset.group 0).state.isStalled = false ∧ (State.reset.agent 7).state = .silent ∧
      ((State.reset.modifyAgent 7 fun r => { r with state := .active 15 }).agent 7).state = .active 15 ∧
      State.reset.events.classRecord .chain = .clear ∧
      ({ EventController.reset with link := .detected ⟨.framing, none, 1⟩ 255 }).classRecord .link =
        .detected ⟨.framing, none, 1⟩ 255 ∧
      ({ EventController.reset with loss := .detected ⟨.missed, some 7, 1⟩ 0 }).classRecord .loss =
        .detected ⟨.missed, some 7, 1⟩ 0 ∧ State.reset.queue.records = [] := by decide

/-- Head records that meet each clause on the head of the store: by cause, tag, placement epoch and number of entries. -/
theorem witness_TableFetch_head :
    let head (cause : Cause) (tag : Option (BitVec 8)) (placed : Option Epoch) : Record :=
      ⟨7, cause, tag, 0, List.replicate 7 ⟨31, 0, true, false⟩, 65535, placed⟩
    let holds (r : Record) : Prop := ({ Queue.reset with records := [r], valueUse := 7 } : Queue).records = r :: []
    holds (head (.overflow 1) (some 255) (some 0)) ∧ (head (.overflow 1) none none).cause = .overflow 1 ∧
      holds (head (.chain 7 7) none none) ∧ (head (.chain 7 7) none none).cause = .chain 7 7 ∧
      (head .host (some 255) none).chainTag = some 255 ∧ (head .host none none).chainTag = none ∧
      (head .host none (some 0)).placementEpoch = some 0 ∧ (head .host none none).placementEpoch = none ∧
      (head .host none none).entries.length ≤ (7 : Fin 8).val ∧
      (head .host none none).entries[(6 : Fin 8).val]? = some ⟨31, 0, true, false⟩ :=
  ⟨rfl, rfl, rfl, rfl, rfl, rfl, rfl, rfl, by decide, by decide⟩

theorem witness_RefusedAccesses :
    State.reset.takes .whole (.write 0x04 0x0908) = true ∧ unknownWord 0x0908 = true ∧
      State.reset.takes .whole (.write 0x04 0x0708) = true ∧ groupRangeWord 0x0708 = true ∧
      (sel 0x0900 0).takes .whole (.write 0x08 0) = true ∧ (sel 0x0900 0).selected = none ∧
      (sel 0x0602 4).selected = some (.error .chain .further) ∧ (sel 0x0700 12).selected = some (.head .valueCount) ∧
      (sel 0x0807 3).selected = some (.headValue 7 .stale) ∧ (sel 0x0207 7).selected = some (.agent 7 .timesLost) ∧
      (sel 0x0400 0).selected = some (.timebase .state) := by decide

theorem witness_PlainRegisterWrites :
    State.reset.takes .whole (.write 0x06 1) = true ∧ State.reset.takes .whole (.write 0x07 1) = true ∧
      State.reset.takes .whole (.write 0x09 1) = true ∧ State.reset.takes .whole (.write 0x0A 1) = true ∧
      State.reset.takes .whole (.write 0x00 1) = true ∧ State.reset.takes .whole (.write 0x0D 1) = true ∧
      State.reset.takes .whole (.write 0x3F 1) = true := by decide

theorem witness_DeviceResets :
    State.reset.takes .whole (.write 0x04 (cmdWord 0x4F 0)) = true ∧
      ({ State.reset with mode := .resetting } : State).mode = .resetting ∧
      (recovering.mode = .recovering ∧ recovering.bus.held = []) ∧
      (let s : State := { recovering with
        bus := { Bus.reset with cycle := .pending, held := [⟨.read 0x08, false⟩], csLow := true } };
      s.mode = .recovering ∧ s.bus.unanswered = none ∧ s.bus.held = [⟨.read 0x08, false⟩]) := by decide

theorem witness_NothingHappensInReset :
    ({ State.reset with mode := .resetting } : State).mode = .resetting ∧ recovering.mode = .recovering ∧
      (∀ c : RecoveryPhase, Instr.engineTick ≠ .resetRecoveryEnd c) ∧ Instr.engineTick ≠ .resetnAsserted ∧
      Instr.engineTick ≠ .powerUp := ⟨rfl, rfl, nofun, nofun, nofun⟩

/-- Every invariant has a state that meets it and is not the reset state: a stalled group with its draft waiting behind a full
store, a chain request on its way, and a cycle held. -/
def busy : State :=
  { grp 7 (fun x => { x with state := .stalled .held, outstanding := true, period := 5, countdown := 5 })
      (passed (.read 0x08) true State.reset) with
    queue := { store 64 4 with waitList := [aDraft 7 .wait 8] }
    paths := { Paths.empty with chainRequests := [⟨1, 0, [1, 2], 2, 7⟩] }
    pending := [.queueRelease .whole 0] }

theorem witness_StoreSoundIsKept : busy.queue.Sound ∧ busy.EightAtMost := by decide
theorem witness_DraftProtocolIsKept : busy.ProtocolSound := ⟨by decide, fun g => by fin_cases g <;> decide⟩
theorem witness_ChainRequestsStaySound : busy.ChainsSound := by decide
theorem witness_BlockConditionsAreKept :
    busy.LinkSound ∧ busy.IrqSound ∧ busy.BandsSound ∧ busy.NoSelfReference := by decide
theorem witness_BusStaysSound : busy.bus.Sound := by decide
theorem witness_ServiceConditionsAreKept :
    let s : State := { inState 7 .running with pending := [.groupHold .whole 7] }
    busy.CountdownsSound ∧ (s.group 7).state ≠ .idle ∧
      (stepped s).map (fun t => (t.group 7).state) = some .held := by decide

end Sys2Proof.Tests
end

section
/-! SUPPORT. How a host access ends, in the words of the statements: an owner that judges a command or a commit without
looking at the Host Port or the bus, and the whole next state of the row. -/

namespace Sys2Proof.Machine

/-- The owner turns `s` into `t` with code `r`, whatever the Host Port and the bus hold, and leaves both to the Host Port
(R163, R168). -/
structure JudgedAs (owner : State → State × ResultCode) (s t : State) (r : ResultCode) : Prop where
  host : t.host = s.host
  bus : t.bus = s.bus
  judges : ∀ (h : HostPort) (b : Bus), owner { s with host := h, bus := b } = ({ t with host := h, bus := b }, r)

/-- An owner so described is no reader of the bus, with any content of the Host Port. -/
theorem JudgedAs.busFree {owner : State → State × ResultCode} {s t : State} {r : ResultCode} (j : JudgedAs owner s t r)
    (h : HostPort) : BusFree owner { s with host := h } := by
  have hj : owner { s with host := h } = ({ t with host := h, bus := s.bus }, r) := j.judges h s.bus
  refine ⟨by rw [hj], fun b => ?_⟩
  rw [hj]
  exact j.judges h b

/-- The bus after an answer depends on the bus alone. -/
theorem State.busAfter_congr {s t : State} (h : t.bus = s.bus) (c : CyclePhase) (word : Option Word) :
    t.busAfter c word = s.busAfter c word := by
  unfold State.busAfter
  rw [h]

/-- A command taken by an owner that answers `r`: the owner's state, with the answer (R163). -/
theorem command_answers {s t : State} {c : CyclePhase} {code op : BitVec 8} {owner : State → State × ResultCode}
    {r : ResultCode} (h : s.takes c (.write 0x04 (cmdWord code op)) = true) (j : JudgedAs owner s t r) :
    command c code op owner s = .next (t.answered c r) := by
  have hj : owner s = ({ t with host := s.host, bus := s.bus }, r) := j.judges s.host s.bus
  rw [command_takes h (j.busFree s.host), hj, ← State.busAfter_congr j.bus, ← j.host]
  rfl

/-- A commit taken by an owner that answers `r`: the owner's state, with the answer (R168). -/
theorem tableWrite_commits {s t : State} {c : CyclePhase} {w : Word}
    {owners : Option Selection → Option (Latch → State → State × ResultCode)} {f : Latch → State → State × ResultCode}
    {r : ResultCode} (h : s.takes c (.write 0x08 w) = true) (hf : owners s.selected = some f)
    (j : JudgedAs (f (s.host.commitValue w)) s t r) : tableWrite c w owners s = .next (t.committed c w r) := by
  have hj : f (s.host.commitValue w) (s.beforeCommit w) =
      ({ t with host := { s.host with latchLow := w, absent := false }, bus := s.bus }, r) := j.judges _ s.bus
  rw [tableWrite_takes h hf (j.busFree _), hj, ← State.busAfter_congr j.bus, ← j.host]
  rfl

/-! ## The encodings of written values (R15, R170, R171) -/

/-- A number below n is its own index. -/
@[simp] theorem finOf_val {n : Nat} (x : Fin n) : finOf n x.val = some x := dif_pos x.isLt

/-- The index that a number names is that number. -/
theorem val_of_finOf {n x : Nat} {y : Fin n} (h : finOf n x = some y) : y.val = x := by
  unfold finOf at h
  split at h
  · cases h; rfl
  · cases h

/-- A value that has no more than n bits is taken. -/
theorem bitsOf_fits {n : Nat} {v : Latch} (h : v.toNat < 2 ^ n) : bitsOf n v = some (v.setWidth n) := if_pos h

/-- A value of more than n bits is no encoding. -/
theorem bitsOf_tooLarge {n : Nat} {v : Latch} (h : 2 ^ n ≤ v.toNat) : bitsOf n v = none := if_neg (Nat.not_lt.mpr h)

/-- A value above a number is not that number. -/
theorem latch_ne_of_lt {v : Latch} {m : Nat} (h : m < v.toNat) : v ≠ BitVec.ofNat 48 m := by
  rintro rfl
  exact absurd h (Nat.not_lt.mpr (Nat.mod_le m (2 ^ 48)))

/-- 0 and 1 say no and yes. -/
@[simp] theorem yesNoOf_bit48 (b : Bool) : yesNoOf (bit48 b) = some b := by cases b <;> rfl

/-- A value above 1 says neither yes nor no. -/
theorem yesNoOf_above {v : Latch} (h : 1 < v.toNat) : yesNoOf v = none := by
  have h0 : v ≠ 0 := latch_ne_of_lt (by omega : 0 < v.toNat)
  have h1 : v ≠ 1 := latch_ne_of_lt (by omega : 1 < v.toNat)
  rw [yesNoOf, if_neg h0, if_neg h1]

/-- The code of an edge (R171). -/
def edgeCode : Edge → Nat
  | .rising => 0
  | .falling => 1
  | .both => 2

/-- A fetch of field edge reads the same code. -/
theorem lineRead_edge (l : Line) : lineRead l .edge = present (num (edgeCode l.edge)) := by
  cases h : l.edge <;> simp [lineRead, h, edgeCode, num]

/-- The code of an edge names it. -/
theorem edgeOf_edgeCode {v : Latch} {e : Edge} (h : v.toNat = edgeCode e) : edgeOf v = some e := by
  have hv : v = num (edgeCode e) := by rw [← h]; simp [num]
  subst hv
  cases e <;> rfl

/-- A value above 2 names no edge. -/
theorem edgeOf_above {v : Latch} (h : 2 < v.toNat) : edgeOf v = none := by
  have h0 : v ≠ 0 := latch_ne_of_lt (by omega : 0 < v.toNat)
  have h1 : v ≠ 1 := latch_ne_of_lt (by omega : 1 < v.toNat)
  have h2 : v ≠ 2 := latch_ne_of_lt (by omega : 2 < v.toNat)
  rw [edgeOf, if_neg h0, if_neg h1, if_neg h2]

/-- The code of a mode names it. -/
@[simp] theorem modeOf_modeCode (m : Mode) : modeOf (modeCode m) = some m := by cases m <;> rfl

/-- A value above 3 names no mode. -/
theorem modeOf_above {v : Latch} (h : 3 < v.toNat) : modeOf v = none := by
  have h0 : v ≠ 0 := latch_ne_of_lt (by omega : 0 < v.toNat)
  have h1 : v ≠ 1 := latch_ne_of_lt (by omega : 1 < v.toNat)
  have h2 : v ≠ 2 := latch_ne_of_lt (by omega : 2 < v.toNat)
  have h3 : v ≠ 3 := latch_ne_of_lt (by omega : 3 < v.toNat)
  rw [modeOf, if_neg h0, if_neg h1, if_neg h2, if_neg h3]

/-- Every code of the catalogue is a small number (R15). -/
theorem sourceCode_lt (src : Source) : sourceCode src < 0x88 := by
  cases src <;> simp only [sourceCode] <;> omega

/-- The code of a source as a 48-bit value. -/
theorem num_sourceCode_toNat (src : Source) : (num (sourceCode src)).toNat = sourceCode src := by
  have h := sourceCode_lt src
  rw [num, BitVec.toNat_ofNat, Nat.mod_eq_of_lt (by omega)]

/-- The code of a source names it (R15). -/
@[simp] theorem sourceOf_sourceCode (src : Source) : sourceOf (num (sourceCode src)) = some src := by
  unfold sourceOf
  rw [num_sourceCode_toNat]
  cases src with
  | none => rfl
  | line n =>
    have hcode : sourceCode (.line n) = 0x01 + n.val := rfl
    have hn : sourceCode (.line n) - 0x01 = n.val := by omega
    rw [if_neg (by omega), if_pos (by omega), hn, finOf_val, Option.map_some]
  | channel a c =>
    have hcode : sourceCode (.channel a c) = 0x20 + 4 * a.val + c.val := rfl
    have ha : (sourceCode (.channel a c) - 0x20) / 4 = a.val := by omega
    have hc : (sourceCode (.channel a c) - 0x20) % 4 = c.val := by omega
    rw [if_neg (by omega), if_neg (by omega), if_pos (by omega), ha, hc, finOf_val, finOf_val, Option.bind_some,
      Option.map_some]
  | tick => rfl
  | overflow k =>
    have hcode : sourceCode (.overflow k) = 0x60 + k.val := rfl
    have hk : sourceCode (.overflow k) - 0x60 = k.val := by omega
    rw [if_neg (by omega), if_neg (by omega), if_neg (by omega), if_neg (by omega), if_pos (by omega), hk, finOf_val,
      Option.map_some]
  | placed g =>
    have hcode : sourceCode (.placed g) = 0x80 + g.val := rfl
    have hg : sourceCode (.placed g) - 0x80 = g.val := by omega
    rw [if_neg (by omega), if_neg (by omega), if_neg (by omega), if_neg (by omega), if_neg (by omega), if_pos (by omega),
      hg, finOf_val, Option.map_some]

/-- A value that names a source is its code (R15). -/
theorem sourceCode_of_sourceOf {v : Latch} {src : Source} (h : sourceOf v = some src) : v = num (sourceCode src) := by
  apply BitVec.eq_of_toNat_eq
  rw [num_sourceCode_toNat]
  unfold sourceOf at h
  dsimp only at h
  split at h
  · cases h; assumption
  split at h
  · obtain ⟨n, hn, rfl⟩ := Option.map_eq_some_iff.mp h
    have := val_of_finOf hn
    simp only [sourceCode]; omega
  split at h
  · obtain ⟨a, ha, h⟩ := Option.bind_eq_some_iff.mp h
    obtain ⟨c, hc, rfl⟩ := Option.map_eq_some_iff.mp h
    have := val_of_finOf ha
    have := val_of_finOf hc
    simp only [sourceCode]; omega
  split at h
  · cases h; assumption
  split at h
  · obtain ⟨k, hk, rfl⟩ := Option.map_eq_some_iff.mp h
    have := val_of_finOf hk
    simp only [sourceCode]; omega
  split at h
  · obtain ⟨g, hg, rfl⟩ := Option.map_eq_some_iff.mp h
    have := val_of_finOf hg
    simp only [sourceCode]; omega
  · cases h

/-- A value that is no source's code names no source (R15). -/
theorem sourceOf_noCode {v : Latch} (h : ∀ src : Source, v ≠ num (sourceCode src)) : sourceOf v = none :=
  Option.eq_none_iff_forall_ne_some.mpr fun src hs => h src (sourceCode_of_sourceOf hs)

end Sys2Proof.Machine
end

section
/-! The Timebase: what an owner answers to each command and commit, what each row then does, and the statements on intervals,
commands and field writes (R1 to R8). -/

namespace Sys2Proof.Machine

/-! ## The owner's answers -/

/-- START in STOPPED (R4). -/
theorem timebaseStart_stopped {s : State} (h : s.timebase.state = .stopped) :
    timebaseStart s = ({ s with timebase := { s.timebase with state := .running s.timebase.periodCode } }, .ok) := by
  simp only [timebaseStart, h, accept]

/-- START in RUNNING (R4). -/
theorem timebaseStart_running {s : State} (h : s.timebase.state ≠ .stopped) : timebaseStart s = (s, .state) := by
  cases hs : s.timebase.state with
  | stopped => exact absurd hs h
  | running code => simp only [timebaseStart, hs, refuse]

/-- STOP in STOPPED (R5). -/
theorem timebaseStop_stopped {s : State} (h : s.timebase.state = .stopped) : timebaseStop s = (s, .state) := by
  simp only [timebaseStop, h, refuse]

/-- STOP in RUNNING (R5). -/
theorem timebaseStop_running {s : State} (h : s.timebase.state ≠ .stopped) :
    timebaseStop s = ({ s with timebase := { s.timebase with state := .stopped } }, .ok) := by
  cases hs : s.timebase.state with
  | stopped => exact absurd hs h
  | running code => simp only [timebaseStop, hs, accept]

/-- A period code of four bits is taken, in either state (R6). -/
theorem writePeriodCode_fits {v : Latch} {s : State} (h : v.toNat ≤ 15) :
    writePeriodCode v s = ({ s with timebase := { s.timebase with periodCode := v.setWidth 4 } }, .ok) := by
  simp only [writePeriodCode, bitsOf_fits (n := 4) (Nat.lt_succ_of_le h), accept]

/-- A larger period code (R6). -/
theorem writePeriodCode_tooLarge {v : Latch} {s : State} (h : 15 < v.toNat) : writePeriodCode v s = (s, .range) := by
  simp only [writePeriodCode, bitsOf_tooLarge (n := 4) h, refuse]

/-- The epoch is taken in STOPPED (R7). -/
theorem writeEpoch_stopped {v : Latch} {s : State} (h : s.timebase.state = .stopped) :
    writeEpoch v s = ({ s with timebase := { s.timebase with epoch := v } }, .ok) := by
  simp only [writeEpoch, h, accept]

/-- The epoch is locked in RUNNING (R7). -/
theorem writeEpoch_running {v : Latch} {s : State} (h : s.timebase.state ≠ .stopped) : writeEpoch v s = (s, .locked) := by
  cases hs : s.timebase.state with
  | stopped => exact absurd hs h
  | running code => simp only [writeEpoch, hs, refuse]

/-! ## The rows -/

section Rows

variable {s t : State} {c : CyclePhase} {op : BitVec 8} {w : Word} {r : ResultCode}

/-- TIMEBASE_START is the owner's answer to START. -/
theorem timebaseStart_answers (h : s.takes c (.write 0x04 (cmdWord 0x20 op)) = true) (j : JudgedAs timebaseStart s t r) :
    exec (.timebaseStart c op) s = .next (t.answered c r) := command_answers h j

/-- TIMEBASE_STOP is the owner's answer to STOP. -/
theorem timebaseStop_answers (h : s.takes c (.write 0x04 (cmdWord 0x21 op)) = true) (j : JudgedAs timebaseStop s t r) :
    exec (.timebaseStop c op) s = .next (t.answered c r) := command_answers h j

/-- PERIOD_CODE_WRITE is the owner's answer to the commit. -/
theorem periodCodeWrite_commits (h : s.takes c (.write 0x08 w) = true)
    (hsel : s.selected = some (.timebase .periodCode)) (j : JudgedAs (writePeriodCode (s.host.commitValue w)) s t r) :
    exec (.periodCodeWrite c w) s = .next (t.committed c w r) := by
  rw [exec, execPeriodCodeWrite]
  exact tableWrite_commits h (by rw [hsel]) j

/-- EPOCH_WRITE is the owner's answer to the commit. -/
theorem epochWrite_commits (h : s.takes c (.write 0x08 w) = true) (hsel : s.selected = some (.timebase .epoch))
    (j : JudgedAs (writeEpoch (s.host.commitValue w)) s t r) :
    exec (.epochWrite c w) s = .next (t.committed c w r) := by
  rw [exec, execEpochWrite]
  exact tableWrite_commits h (by rw [hsel]) j

end Rows

/-- INTERVAL_EXPIRY in RUNNING (R3). -/
theorem intervalExpiry_running {s : State} {code : BitVec 4} (hm : s.mode = .running)
    (hs : s.timebase.state = .running code) : exec .intervalExpiry s = .next (expireInterval s) := by
  have h : exec .intervalExpiry s = event s expireInterval := by simp only [exec, execIntervalExpiry, hs]
  rw [h, event_running hm]

/-! ## The statements -/

/-- Settles O9: the owner's four answers, each as a commit of its row. -/
theorem timebaseFieldWrites : Obligations.TimebaseFieldWrites := fun _ _ _ ht =>
  ⟨fun hsel hv => periodCodeWrite_commits ht hsel ⟨rfl, rfl, fun _ _ => writePeriodCode_fits hv⟩,
   fun hsel hv => periodCodeWrite_commits ht hsel ⟨rfl, rfl, fun _ _ => writePeriodCode_tooLarge hv⟩,
   fun hsel hs => epochWrite_commits ht hsel ⟨rfl, rfl, fun _ _ => writeEpoch_stopped hs⟩,
   fun hsel hs => epochWrite_commits ht hsel ⟨rfl, rfl, fun _ _ => writeEpoch_running hs⟩⟩

/-- Settles O7: the table is evaluated, and an expiry in RUNNING is the effect of the event. -/
theorem intervalsAndTicks : Obligations.IntervalsAndTicks :=
  ⟨by decide, fun _ _ hm hs => intervalExpiry_running hm hs⟩

/-- Settles O8: the owner's answers in STOPPED and in RUNNING, each as the answer of its row. -/
theorem timebaseCommands : Obligations.TimebaseCommands :=
  ⟨fun _ _ _ ht =>
    ⟨fun hs => timebaseStart_answers ht ⟨rfl, rfl, fun _ _ => timebaseStart_stopped hs⟩,
     fun hs => timebaseStart_answers ht ⟨rfl, rfl, fun _ _ => timebaseStart_running hs⟩⟩,
   fun _ _ _ ht =>
    ⟨fun hs => timebaseStop_answers ht ⟨rfl, rfl, fun _ _ => timebaseStop_running hs⟩,
     fun hs => timebaseStop_answers ht ⟨rfl, rfl, fun _ _ => timebaseStop_stopped hs⟩⟩⟩

end Sys2Proof.Machine
end

section
/-! The Line Inputs: a recognised change, the owner's answers to a commit, and the two statements on them (R11 to R14). -/

namespace Sys2Proof.Machine

/-- The change away from a level is selected by BOTH and by the edge of that direction (R13). -/
theorem Edge.selects_not (e : Edge) (level : Bool) :
    e.selects (!level) = (decide (e = .both) || decide (e = if level then .falling else .rising)) := by
  cases e <;> cases level <;> rfl

/-- A recognised change toggles the level, and sends a LINE event where the line reports it (R13). -/
theorem changeLine_eq (n : Fin 16) (s : State) :
    changeLine n s = { s.modifyLine n fun x => { x with level := !x.level } with
      paths := { s.paths with
        lineEvents := if (s.line n).enabled && (s.line n).edge.selects (!(s.line n).level) then s.paths.lineEvents ++ [n]
          else s.paths.lineEvents } } := by
  unfold changeLine
  dsimp only
  split <;> rfl

/-- The line records after a recognised change (R13). -/
theorem changeLine_line (n m : Fin 16) (s : State) :
    (changeLine n s).line m = if m = n then { s.line n with level := !(s.line n).level } else s.line m := by
  rw [changeLine_eq]
  exact State.modifyLine_line s n m fun x => { x with level := !x.level }

/-- Enabled takes yes and no (R11). -/
theorem writeLine_enabled (n : Fin 16) (b : Bool) (s : State) :
    writeLine n .enabled (bit48 b) s = (s.modifyLine n fun l => { l with enabled := b }, .ok) := by
  simp only [writeLine, yesNoOf_bit48, accept]

/-- Enabled takes no larger value (R171). -/
theorem writeLine_enabled_above {v : Latch} (n : Fin 16) (s : State) (h : 1 < v.toNat) :
    writeLine n .enabled v s = (s, .range) := by
  simp only [writeLine, yesNoOf_above h, refuse]

/-- Edge takes the code of an edge (R14, R171). -/
theorem writeLine_edge {v : Latch} {e : Edge} (n : Fin 16) (s : State) (h : v.toNat = edgeCode e) :
    writeLine n .edge v s = (s.modifyLine n fun l => { l with edge := e }, .ok) := by
  simp only [writeLine, edgeOf_edgeCode h, accept]

/-- Edge takes no larger value (R171). -/
theorem writeLine_edge_above {v : Latch} (n : Fin 16) (s : State) (h : 2 < v.toNat) :
    writeLine n .edge v s = (s, .range) := by
  simp only [writeLine, edgeOf_above h, refuse]

/-- LINE_FIELD_WRITE is the owner's answer to the commit. -/
theorem lineFieldWrite_commits {s t : State} {c : CyclePhase} {w : Word} {n : Fin 16} {f : LineField} {r : ResultCode}
    (h : s.takes c (.write 0x08 w) = true) (hsel : s.selected = some (.line n f))
    (j : JudgedAs (writeLine n f (s.host.commitValue w)) s t r) :
    exec (.lineFieldWrite c w) s = .next (t.committed c w r) := by
  rw [exec, execLineFieldWrite]
  exact tableWrite_commits h (by rw [hsel]) j

/-- Settles O10, by the whole state after a recognised change. -/
theorem lineChangeReports : Obligations.LineChangeReports := by
  intro n s hm
  have hx : exec (.lineChange n) s = .next (changeLine n s) := event_running hm
  refine ⟨changeLine n s, hx, ?_, ?_, (changeLine_line n n s).trans (if_pos rfl),
    fun m hne => (changeLine_line n m s).trans (if_neg hne)⟩
  · rw [changeLine_eq]
    rfl
  · rw [changeLine_eq, Edge.selects_not]

/-- Settles O11: the owner's answers field by field, each as a commit of the row. -/
theorem lineFieldWrites : Obligations.LineFieldWrites := by
  intro c w n s ht
  refine ⟨fun hsel => ⟨fun b hv => ?_, fun hv => ?_⟩, fun hsel => ⟨fun e hv => ?_, fun hv => ?_⟩, fun hsel => ?_⟩
  · exact lineFieldWrite_commits ht hsel ⟨rfl, rfl, fun _ _ => hv ▸ writeLine_enabled n b _⟩
  · exact lineFieldWrite_commits ht hsel ⟨rfl, rfl, fun _ _ => writeLine_enabled_above n _ hv⟩
  · exact lineFieldWrite_commits ht hsel ⟨rfl, rfl, fun _ _ => writeLine_edge n _ hv⟩
  · exact lineFieldWrite_commits ht hsel ⟨rfl, rfl, fun _ _ => writeLine_edge_above n _ hv⟩
  · exact lineFieldWrite_commits ht hsel ⟨rfl, rfl, fun _ _ => rfl⟩

end Sys2Proof.Machine
end

section
/-! Configuration writes of a counter: the lock, the values that each field takes, and the statement on them (R44, R51 to
R53). -/

namespace Sys2Proof.Machine

/-- A counter's group out of service, as the statements say it (R51). -/
theorem State.groupIdle_iff {s : State} {x : Option (Fin 8)} :
    s.groupIdle x = true ↔ ∀ g : Fin 8, x = some g → (s.group g).state = .idle := by
  cases x <;> simp [State.groupIdle]

section ConfigWrite

variable {α : Type} {k : Fin 32} {f : α → Counter → Counter} {s : State}

/-- A configuration write in service is refused (R51). -/
theorem configWrite_locked (v : Option α) (h : ¬ s.groupIdle (s.counter k).group = true) :
    configWrite k v f s = (s, .locked) := if_neg h

/-- A configuration write out of service of a value that the field does not take (R51). -/
theorem configWrite_range {v : Option α} (h : s.groupIdle (s.counter k).group = true) (hv : v = none) :
    configWrite k v f s = (s, .range) := by
  subst hv
  exact if_pos h

/-- A configuration write out of service of a value that the field takes: inside becomes no (R51, R53). -/
theorem configWrite_takes {v : Option α} {x : α} (h : s.groupIdle (s.counter k).group = true) (hv : v = some x) :
    configWrite k v f s = (s.modifyCounter k fun _ => { f x (s.counter k) with inside := false }, .ok) := by
  subst hv
  exact if_pos h

end ConfigWrite

/-! ## The values that a field takes -/

/-- A counter may select any source but its own overflow (R52). -/
theorem sourceFor_code {k : Fin 32} {src : Source} (h : src ≠ .overflow k) : sourceFor k (num (sourceCode src)) = some src := by
  simp [sourceFor, h]

/-- A counter may not select its own overflow (R52). -/
theorem sourceFor_self (k : Fin 32) : sourceFor k (num (sourceCode (.overflow k))) = none := by
  simp [sourceFor]

/-- A value that is no source's code is none for a counter either (R15). -/
theorem sourceFor_noCode {k : Fin 32} {v : Latch} (h : ∀ src : Source, v ≠ num (sourceCode src)) : sourceFor k v = none := by
  simp [sourceFor, sourceOf_noCode h]

/-- Twelve bits of a value that has no more. -/
theorem setWidth12_toNat {v : Latch} (h : v.toNat < 2 ^ 12) : (v.setWidth 12).toNat = v.toNat := by
  rw [BitVec.toNat_setWidth, Nat.mod_eq_of_lt h]

/-- Band low takes a value up to band high (R44). -/
theorem bandLowFor_fits {x : Counter} {v : Latch} (h : v.toNat ≤ x.bandHigh.toNat) :
    bandLowFor x v = some (v.setWidth 12) := by
  have hv : v.toNat < 2 ^ 12 := Nat.lt_of_le_of_lt h x.bandHigh.isLt
  have hle : v.setWidth 12 ≤ x.bandHigh := by rwa [BitVec.le_def, setWidth12_toNat hv]
  simp [bandLowFor, bitsOf_fits hv, hle]

/-- Band low takes no value above band high (R44). -/
theorem bandLowFor_above {x : Counter} {v : Latch} (h : x.bandHigh.toNat < v.toNat) : bandLowFor x v = none := by
  by_cases hv : v.toNat < 2 ^ 12
  · have hlt : x.bandHigh < v.setWidth 12 := by rwa [BitVec.lt_def, setWidth12_toNat hv]
    simp [bandLowFor, bitsOf_fits hv, hlt]
  · simp [bandLowFor, bitsOf_tooLarge (Nat.not_lt.mp hv)]

/-- Band high takes a value from band low up (R44). -/
theorem bandHighFor_fits {x : Counter} {v : Latch} (h : x.bandLow.toNat ≤ v.toNat) (hv : v.toNat < 2 ^ 12) :
    bandHighFor x v = some (v.setWidth 12) := by
  have hle : x.bandLow ≤ v.setWidth 12 := by rwa [BitVec.le_def, setWidth12_toNat hv]
  simp [bandHighFor, bitsOf_fits hv, hle]

/-- Band high takes no value below band low (R44). -/
theorem bandHighFor_below {x : Counter} {v : Latch} (h : v.toNat < x.bandLow.toNat) : bandHighFor x v = none := by
  have hv : v.toNat < 2 ^ 12 := Nat.lt_trans h x.bandLow.isLt
  have hlt : v.setWidth 12 < x.bandLow := by rwa [BitVec.lt_def, setWidth12_toNat hv]
  simp [bandHighFor, bitsOf_fits hv, hlt]

/-- Band high takes no value of more than twelve bits (R44). -/
theorem bandHighFor_tooLarge {x : Counter} {v : Latch} (h : 2 ^ 12 ≤ v.toNat) : bandHighFor x v = none := by
  simp [bandHighFor, bitsOf_tooLarge h]

/-! ## The row -/

/-- COUNTER_FIELD_WRITE is the owner's answer to the commit. -/
theorem counterFieldWrite_commits {s t : State} {c : CyclePhase} {w : Word} {k : Fin 32} {f : CounterField} {r : ResultCode}
    (h : s.takes c (.write 0x08 w) = true) (hsel : s.selected = some (.counter k f)) (hf : isPlainField f = true)
    (j : JudgedAs (writeCounter k f (s.host.commitValue w)) s t r) :
    exec (.counterFieldWrite c w) s = .next (t.committed c w r) := by
  rw [exec, execCounterFieldWrite]
  exact tableWrite_commits h (by rw [hsel]; exact if_pos hf) j

/-- Settles O36: the owner's answers field by field, each as a commit of the row. -/
theorem counterFieldWrites : Obligations.CounterFieldWrites := by
  intro c w k f s ht hsel v x unlocked answers takes
  have hrow {t : State} {r : ResultCode} (hf : isPlainField f = true) (j : JudgedAs (writeCounter k f v) s t r) :
      exec (.counterFieldWrite c w) s = .next (t.committed c w r) := counterFieldWrite_commits ht hsel hf j
  refine ⟨fun hf => ?_, fun hf hl => ?_, fun hu => ?_⟩
  · have hf : f = .inside ∨ f = .wrapped ∨ f = .stale := by simpa using hf
    obtain rfl | rfl | rfl := hf <;> exact hrow rfl ⟨rfl, rfl, fun _ _ => rfl⟩
  · have hl' : ¬ s.groupIdle (s.counter k).group = true := fun h => hl (State.groupIdle_iff.mp h)
    have hf : f = .enabled ∨ f = .source ∨ f = .mode ∨ f = .bandLow ∨ f = .bandHigh ∨ f = .overflowCapture := by
      simpa using hf
    obtain rfl | rfl | rfl | rfl | rfl | rfl := hf <;>
      exact hrow rfl ⟨rfl, rfl, fun _ _ => configWrite_locked _ hl'⟩
  have hi : s.groupIdle (s.counter k).group = true := State.groupIdle_iff.mpr hu
  refine ⟨?enabled, ?yesNoAbove, ?overflowCapture, ?source, ?noSource, ?mode, ?modeAbove,
    ?bandLow, ?bandLowAbove, ?bandHigh, ?bandHighOutside⟩
  case enabled =>
    rintro rfl b hv
    exact hrow rfl ⟨rfl, rfl, fun _ _ => configWrite_takes hi (hv ▸ yesNoOf_bit48 b)⟩
  case yesNoAbove =>
    rintro (rfl | rfl) hv
    · exact hrow rfl ⟨rfl, rfl, fun _ _ => configWrite_range hi (yesNoOf_above hv)⟩
    · exact hrow rfl ⟨rfl, rfl, fun _ _ => configWrite_range hi (yesNoOf_above hv)⟩
  case overflowCapture =>
    rintro rfl b hv
    exact hrow rfl ⟨rfl, rfl, fun _ _ => configWrite_takes hi (hv ▸ yesNoOf_bit48 b)⟩
  case source =>
    rintro rfl src hv
    refine ⟨fun hne => ?_, fun he => ?_⟩
    · exact hrow rfl ⟨rfl, rfl, fun _ _ => configWrite_takes hi (hv ▸ sourceFor_code hne)⟩
    · exact hrow rfl ⟨rfl, rfl, fun _ _ => configWrite_range hi (hv ▸ he ▸ sourceFor_self k)⟩
  case noSource =>
    rintro rfl hv
    exact hrow rfl ⟨rfl, rfl, fun _ _ => configWrite_range hi (sourceFor_noCode hv)⟩
  case mode =>
    rintro rfl m hv
    exact hrow rfl ⟨rfl, rfl, fun _ _ => configWrite_takes hi (hv ▸ modeOf_modeCode m)⟩
  case modeAbove =>
    rintro rfl hv
    exact hrow rfl ⟨rfl, rfl, fun _ _ => configWrite_range hi (modeOf_above hv)⟩
  case bandLow =>
    rintro rfl hv
    exact hrow rfl ⟨rfl, rfl, fun _ _ => configWrite_takes hi (bandLowFor_fits hv)⟩
  case bandLowAbove =>
    rintro rfl hv
    exact hrow rfl ⟨rfl, rfl, fun _ _ => configWrite_range hi (bandLowFor_above hv)⟩
  case bandHigh =>
    rintro rfl hlow hv
    exact hrow rfl ⟨rfl, rfl, fun _ _ => configWrite_takes hi (bandHighFor_fits hlow (Nat.lt_succ_of_le hv))⟩
  case bandHighOutside =>
    rintro rfl (hlow | hv)
    · exact hrow rfl ⟨rfl, rfl, fun _ _ => configWrite_range hi (bandHighFor_below hlow)⟩
    · exact hrow rfl ⟨rfl, rfl, fun _ _ => configWrite_range hi (bandHighFor_tooLarge hv)⟩

end Sys2Proof.Machine
end

section
/-! Accesses that change no block: the refusals of the Host Port and of the owners (R8, R25, R163, R168, R169, R172). -/

namespace Sys2Proof.Machine

/-- A commit that its owner refuses: the code, and no change in any block (R164, R168). -/
theorem tableWrite_refuses {s : State} {c : CyclePhase} {w : Word}
    {owners : Option Selection → Option (Latch → State → State × ResultCode)} {r : ResultCode}
    (h : s.takes c (.write 0x08 w) = true) (hf : owners s.selected = some fun _ => refuse r) :
    tableWrite c w owners s = .next (s.committed c w r) :=
  tableWrite_commits h hf ⟨rfl, rfl, fun _ _ => rfl⟩

/-- A write of CMD that the Host Port answers itself: its code alone (R163). -/
theorem hostAnswer_takes {s : State} {c : CyclePhase} {w : Word} {mine : State → Bool} (r : ResultCode)
    (h : s.takes c (.write 0x04 w) = true) (hm : mine s = true) :
    hostAccess c (.write 0x04 w) mine (fun t => t.withResult r) s = .next (s.answered c r) :=
  hostAccess_takes h hm (fun _ => rfl) rfl

/-- UNKNOWN_COMMAND: a code of no command (R163). -/
theorem unknownCommand_answers {s : State} {c : CyclePhase} {w : Word} (h : s.takes c (.write 0x04 w) = true)
    (hw : unknownWord w = true) : exec (.unknownCommand c w) s = .next (s.answered c .unknown) := by
  rw [exec, execUnknownCommand]
  exact hostAnswer_takes .unknown h hw

/-- GROUP_OPERAND_RANGE: an operand of no group (R66, R163). -/
theorem groupOperandRange_answers {s : State} {c : CyclePhase} {w : Word} (h : s.takes c (.write 0x04 w) = true)
    (hw : groupRangeWord w = true) : exec (.groupOperandRange c w) s = .next (s.answered c .range) := by
  rw [exec, execGroupOperandRange]
  exact hostAnswer_takes .range h hw

section Rows

variable {s : State} {c : CyclePhase} {w : Word} (h : s.takes c (.write 0x08 w) = true)
include h

/-- TABLE_COMMIT_RANGE: no field is selected (R168, R169). -/
theorem tableCommitRange_refuses (hsel : s.selected = none) :
    exec (.tableCommitRange c w) s = .next (s.committed c w .range) := by
  rw [exec, execTableCommitRange]
  exact tableWrite_refuses h (by rw [hsel])

/-- READ_ONLY_TABLE_WRITE at the tables ERROR, HEAD and HEADVALUE (R172). -/
theorem readOnlyTableWrite_refuses (hsel : (∃ k f, s.selected = some (.error k f)) ∨ (∃ f, s.selected = some (.head f)) ∨
      ∃ p f, s.selected = some (.headValue p f)) :
    exec (.readOnlyTableWrite c w) s = .next (s.committed c w .readonly) := by
  rw [exec, execReadOnlyTableWrite]
  obtain ⟨_, _, hsel⟩ | ⟨_, hsel⟩ | ⟨_, _, hsel⟩ := hsel <;> exact tableWrite_refuses h (by rw [hsel])

/-- READONLY_FIELD_WRITE at a read-only field of table AGENT (R25). -/
theorem readonlyFieldWrite_agent {a : Fin 8} {f : AgentField} (hsel : s.selected = some (.agent a f))
    (hf : isReadOnlyAgentField f = true) : exec (.readonlyFieldWrite c w) s = .next (s.committed c w .readonly) := by
  rw [exec, execReadonlyFieldWrite]
  exact tableWrite_refuses h (by rw [hsel]; exact if_pos hf)

/-- READONLY_FIELD_WRITE at field state of table TIMEBASE (R8). -/
theorem readonlyFieldWrite_timebase (hsel : s.selected = some (.timebase .state)) :
    exec (.readonlyFieldWrite c w) s = .next (s.committed c w .readonly) := by
  rw [exec, execReadonlyFieldWrite]
  exact tableWrite_refuses h (by rw [hsel])

end Rows

/-- All fields of table AGENT but enabled and silence limit are read only (R25). -/
theorem isReadOnlyAgentField_of_ne {f : AgentField} (he : f ≠ .enabled) (hl : f ≠ .silenceLimit) :
    isReadOnlyAgentField f = true := by
  cases f with
  | enabled => exact absurd rfl he
  | silenceLimit => exact absurd rfl hl
  | state | expected | silenceElapsed | accepted | missed | timesLost => rfl

/-- Settles O50: the refusals of CMD words, and then of commits by the selection. -/
theorem refusedAccesses : Obligations.RefusedAccesses := fun _ _ _ =>
  ⟨fun ht hw => unknownCommand_answers ht hw,
   fun ht hw => groupOperandRange_answers ht hw,
   fun ht =>
    ⟨fun hsel => tableCommitRange_refuses ht hsel,
     fun k f hsel => readOnlyTableWrite_refuses ht (.inl ⟨k, f, hsel⟩),
     fun f hsel => readOnlyTableWrite_refuses ht (.inr (.inl ⟨f, hsel⟩)),
     fun p f hsel => readOnlyTableWrite_refuses ht (.inr (.inr ⟨p, f, hsel⟩)),
     fun _ _ hsel he hl => readonlyFieldWrite_agent ht hsel (isReadOnlyAgentField_of_ne he hl),
     fun hsel => readonlyFieldWrite_timebase ht hsel⟩⟩

end Sys2Proof.Machine
end

section
/-! The source events that arrive at the Count Engine (R13, R46, R61). -/

namespace Sys2Proof.Machine

/-- SOURCE_EVENT applies the source event at the front of its path. -/
theorem sourceEvent_applies {s t : State} {path : SourcePath} {src : Source} {a : Amount} (hm : s.mode = .running)
    (hf : frontSource path s = some (src, a, t)) : exec (.sourceEvent path) s = .next (applySource src a t) := by
  simp only [exec, execSourceEvent, hf, event_running hm]

/-- The oldest LINE event, with amount 1. -/
theorem frontSource_lines {s : State} {n : Fin 16} {rest : List (Fin 16)} (h : s.paths.lineEvents = n :: rest) :
    frontSource .lines s = some (.line n, 1, { s with paths := { s.paths with lineEvents := rest } }) := by
  simp only [frontSource, h]

/-- The oldest CHANNEL event, with its amount. -/
theorem frontSource_link {s : State} {a : Fin 8} {ch : Fin 4} {x : Amount} {rest : List LinkMessage}
    (h : s.paths.linkToEngine = .channel a ch x :: rest) :
    frontSource .link s = some (.channel a ch, x, { s with paths := { s.paths with linkToEngine := rest } }) := by
  simp only [frontSource, h]

/-- OVERFLOW_EVENT applies the oldest OVERFLOW event, with amount 1. -/
theorem overflowEvent_applies {s : State} {k : Fin 32} {rest : List (Fin 32)} (hm : s.mode = .running)
    (h : s.paths.overflows = k :: rest) : exec .overflowEvent s = .next
      (applySource (.overflow k) 1 { s with paths := { s.paths with overflows := rest } }) := by
  simp only [exec, execOverflowEvent, h, event_running hm]

/-- PLACED_EVENT applies the oldest PLACED event, with amount 1. -/
theorem placedEvent_applies {s : State} {g : Fin 8} {rest : List (Fin 8)} (hm : s.mode = .running)
    (h : s.paths.placements = g :: rest) : exec .placedEvent s = .next
      (applySource (.placed g) 1 { s with paths := { s.paths with placements := rest } }) := by
  simp only [exec, execPlacedEvent, h, event_running hm]

/-- Settles O21: the message at the front of each of the four paths. -/
theorem sourceEventsAreApplied : Obligations.SourceEventsAreApplied := fun _ hm =>
  ⟨fun _ _ h => sourceEvent_applies hm (frontSource_lines h),
   fun _ _ _ _ h => sourceEvent_applies hm (frontSource_link h),
   fun _ _ h => overflowEvent_applies hm h,
   fun _ _ h => placedEvent_applies hm h⟩

end Sys2Proof.Machine
end

section
/-! The device resets, and the invariants of the state they leave (R1, R173 to R175). -/

namespace Sys2Proof.Machine

/-! ## Resets -/

/-- A line record after a reset of the blocks: its level follows its input (R11). -/
@[simp] theorem resetBlocks_line (s : State) (n : Fin 16) :
    (resetBlocks s).line n = ⟨false, .rising, (s.line n).level⟩ := by
  simp [State.line, resetBlocks, Line.reset]

/-- DEVICE_RESET taken: the reset of the blocks, and its cycle answered (R174). -/
theorem deviceReset_takes {s : State} {c : CyclePhase} {op : BitVec 8} {levels : Word}
    (h : s.takes c (.write 0x04 (cmdWord 0x4F op)) = true) :
    exec (.deviceReset c op levels) s = .next ((deviceReset levels s).withBus (s.busAfter c none)) := by
  rw [exec, execDeviceReset]
  exact hostAccess_takes h rfl (fun _ => rfl) rfl

/-- A line record after DEVICE RESET has the level present (R174). -/
theorem deviceReset_line (levels : Word) (s : State) (n : Fin 16) :
    (deviceReset levels s).line n = ⟨false, .rising, levels.getLsbD n.val⟩ := by
  simp [deviceReset]

/-- RESETn and power-up hold the part in reset (R175). -/
theorem exec_holdInReset {i : Instr} (hi : i = .resetnAsserted ∨ i = .powerUp) (s : State) :
    exec i s = .next (holdInReset s) := by
  obtain rfl | rfl := hi <;> rfl

/-- In reset RDYn is released (R175). -/
theorem State.rdyn_resetting {s : State} (h : s.mode = .resetting) : s.rdyn = .released := if_pos h

/-- Recovery begins from reset (R175). -/
theorem resetRecoveryEnd_begins {s : State} (h : s.mode = .resetting) :
    exec (.resetRecoveryEnd .begun) s = .next { s with mode := .recovering } := by
  simp only [exec, execResetRecoveryEnd, h, beginRecovery]

/-- Recovery ends from recovery (R175). -/
theorem resetRecoveryEnd_ends {s : State} (levels : Word) (h : s.mode = .recovering) :
    exec (.resetRecoveryEnd (.ended levels)) s = .next (endRecovery levels s) := by
  simp only [exec, execResetRecoveryEnd, h]

/-- With no cycle held, or one unanswered, none is passed on (R159). -/
theorem Bus.passOn_none {b : Bus} (h : b.held = [] ∨ b.unanswered ≠ none) : b.passOn = b := by
  obtain h | h := h
  · cases hu : b.unanswered <;> simp only [Bus.passOn, hu, h]
  · obtain ⟨x, hx⟩ := Option.ne_none_iff_exists'.mp h
    simp only [Bus.passOn, hx]

/-- The oldest held cycle is passed on (R159). -/
theorem Bus.passOn_cons {b : Bus} {x : BusCycle} {rest : List BusCycle} (hu : b.unanswered = none)
    (hh : b.held = x :: rest) : b.passOn = { b with unanswered := some x, held := rest } := by
  simp only [Bus.passOn, hu, hh]

/-- Settles O52: DEVICE RESET, the hold in reset, and the two ends of recovery. -/
theorem deviceResets : Obligations.DeviceResets := by
  refine ⟨fun c op levels s ht => ?_, fun i s hi => ?_, fun s hm => ?_, fun levels s hm => ?_⟩
  · exact ⟨_, deviceReset_takes ht, rfl, deviceReset_line levels s⟩
  · exact ⟨holdInReset s, exec_holdInReset hi s, State.rdyn_resetting rfl, rfl, resetBlocks_line s⟩
  · exact ⟨State.rdyn_resetting hm, resetRecoveryEnd_begins hm⟩
  · exact ⟨endRecovery levels s, resetRecoveryEnd_ends levels hm, rfl, State.firstLevels_line _ levels, Bus.passOn_none,
      fun _ _ => Bus.passOn_cons⟩

/-! ## The reset state -/

/-- Every counter is at its reset values (R39). -/
@[simp] theorem reset_counter (k : Fin 32) : State.reset.counter k = Counter.reset := by
  simp [State.counter, State.reset]

/-- Every group is at its reset values (R62). -/
@[simp] theorem reset_group (g : Fin 8) : State.reset.group g = Group.reset := by
  simp [State.group, State.reset]

/-- Every agent is at its reset values (R25). -/
@[simp] theorem reset_agent (a : Fin 8) : State.reset.agent a = Agent.reset := by
  simp [State.agent, State.reset]

/-- After reset no group has a member (R39). -/
@[simp] theorem reset_members (g : Fin 8) : State.reset.members g = [] := by
  refine List.eq_nil_iff_forall_not_mem.mpr fun k hk => ?_
  have h : (State.reset.counter k).group = some g := State.mem_members.mp hk
  rw [reset_counter] at h
  cases h

/-- The store is empty after reset, and the watermark is 16 (R122). -/
theorem reset_storeSound : State.reset.queue.Sound := by decide

/-- Nothing has entries or members after reset. -/
theorem reset_eightAtMost : State.reset.EightAtMost :=
  ⟨fun g => by simp, nofun, nofun, nofun⟩

/-- No draft and no answer is anywhere after reset, and no group waits for one. -/
theorem reset_protocolSound : State.reset.ProtocolSound := by
  refine ⟨fun g => ?_, fun g => ⟨?_, ?_, ?_, ?_, ?_, ?_⟩⟩
  · rw [reset_group]; rfl
  · exact List.mem_cons_self
  · exact nofun
  · rw [State.StallSound, reset_group]; exact nofun
  · exact nofun
  · rw [State.WithdrawSound, reset_group]; exact fun h => absurd rfl h
  · rw [State.LiveSound, reset_group]; exact nofun

/-- No group chains and no request is on its way after reset. -/
theorem reset_chainsSound : State.reset.ChainsSound :=
  ⟨fun g => by rw [reset_group]; exact nofun, nofun⟩

/-- The receiver is OFF and every agent SILENT after reset (R17, R25). -/
theorem reset_linkSound : State.reset.LinkSound :=
  ⟨⟨fun _ => rfl, fun _ => rfl⟩, fun a _ => by rw [reset_agent]; rfl⟩

/-- No flag is set and IRQn is not asserted after reset (R146). -/
theorem reset_irqSound : State.reset.IrqSound := rfl

/-- The bands are 0 to 4095 after reset (R39). -/
theorem reset_bandsSound : State.reset.BandsSound := fun k => by
  rw [reset_counter]; decide

/-- Every source is NONE and every chain next END after reset (R39, R62). -/
theorem reset_noSelfReference : State.reset.NoSelfReference :=
  ⟨fun k => by rw [reset_counter]; exact nofun, fun g => by rw [reset_group]; exact nofun⟩

/-- The bus is FREE after reset, with no cycle (R173). -/
theorem reset_busSound : State.reset.bus.Sound := by decide

/-- Every group is IDLE after reset (R62). -/
theorem reset_countdownsSound : State.reset.CountdownsSound := fun g h => by
  rw [reset_group] at h
  exact absurd rfl h

/-- Settles O54: each condition at the reset values. -/
theorem invariantsHoldAtReset : Obligations.InvariantsHoldAtReset :=
  ⟨reset_storeSound, reset_eightAtMost, reset_protocolSound, reset_chainsSound, reset_linkSound, reset_irqSound,
   reset_bandsSound, reset_noSelfReference, reset_busSound, reset_countdownsSound⟩

end Sys2Proof.Machine
end

section
/-! Tally frames: the fields of a built frame, the CRC-8 as a linear map of the content, and the statement on them (R20, R21). -/

namespace Sys2Proof

/-! ## The fields of a built frame (R20) -/

/-- A built frame has the preamble 10b. -/
theorem framePreamble_encodeFrame (x : Frame) : framePreamble (encodeFrame x) = 0b10 := by
  rw [framePreamble, encodeFrame, BitVec.extractLsb'_append_eq_of_le (by decide)]
  exact BitVec.extractLsb'_append_eq_left

/-- A built frame carries its content in bits 29 to 8. -/
theorem frameContent_encodeFrame (x : Frame) : frameContent (encodeFrame x) = contentOf x := by
  rw [frameContent, encodeFrame, BitVec.extractLsb'_append_eq_of_le (by decide)]
  exact BitVec.extractLsb'_append_eq_right

/-- A built frame carries the CRC-8 of its content in bits 7 to 0. -/
theorem frameCheck_encodeFrame (x : Frame) : frameCheck (encodeFrame x) = crcOf (contentOf x) :=
  BitVec.extractLsb'_append_eq_right

/-- A built frame passes the check. -/
theorem checkPasses_encodeFrame (x : Frame) : checkPasses (encodeFrame x) = true := by
  rw [checkPasses, frameContent_encodeFrame, frameCheck_encodeFrame, decide_eq_true rfl]

/-- The fields of a frame are those of its content bits. -/
theorem frameOf_eq_content (f : BitVec 32) : frameOf f =
    { agent := ((frameContent f).extractLsb' 19 3).toFin
      channel := ((frameContent f).extractLsb' 17 2).toFin
      keepalive := (frameContent f).getLsbD 16
      sequence := (frameContent f).extractLsb' 12 4
      amount := (frameContent f).extractLsb' 0 12 } := by
  have hfield (i n : Nat) (h : i + n ≤ 22) :
      (frameContent f).extractLsb' i n = f.extractLsb' (8 + i) n := by
    apply BitVec.eq_of_getLsbD_eq
    intro j hj
    simp only [frameContent, BitVec.getLsbD_extractLsb', Nat.add_assoc, show i + j < 22 by omega, decide_true,
      Bool.true_and]
  rw [hfield 19 3 (by decide), hfield 17 2 (by decide), hfield 12 4 (by decide), hfield 0 12 (by decide)]
  simp [frameOf, frameContent]

/-- The fields of content bits built from a content. -/
theorem contentOf_fields (x : Frame) :
    (contentOf x).extractLsb' 19 3 = BitVec.ofFin (w := 3) x.agent ∧
      (contentOf x).extractLsb' 17 2 = BitVec.ofFin (w := 2) x.channel ∧
      (contentOf x).extractLsb' 16 1 = BitVec.ofBool x.keepalive ∧
      (contentOf x).extractLsb' 12 4 = x.sequence ∧ (contentOf x).extractLsb' 0 12 = x.amount := by
  have above {n m i k : Nat} (hi : BitVec n) (lo : BitVec m) (h : m ≤ i) :
      (hi ++ lo).extractLsb' i k = hi.extractLsb' (i - m) k := BitVec.extractLsb'_append_eq_of_le h
  refine ⟨?_, ?_, ?_, ?_, BitVec.extractLsb'_append_eq_right⟩
  · rw [contentOf, above _ _ (by decide), above _ _ (by decide), above _ _ (by decide)]
    exact BitVec.extractLsb'_append_eq_left
  · rw [contentOf, above _ _ (by decide), above _ _ (by decide), above _ _ (by decide)]
    exact BitVec.extractLsb'_append_eq_right
  · rw [contentOf, above _ _ (by decide), above _ _ (by decide)]
    exact BitVec.extractLsb'_append_eq_right
  · rw [contentOf, above _ _ (by decide)]
    exact BitVec.extractLsb'_append_eq_right

/-- A built frame is read as the content it was built from. -/
theorem frameOf_encodeFrame (x : Frame) : frameOf (encodeFrame x) = x := by
  obtain ⟨hagent, hchannel, hkeepalive, hsequence, hamount⟩ := contentOf_fields x
  have hbit : (contentOf x).getLsbD 16 = x.keepalive := by
    have h := congrArg (BitVec.getLsbD · 0) hkeepalive
    simpa using h
  rw [frameOf_eq_content, frameContent_encodeFrame, hagent, hchannel, hbit, hsequence, hamount]

/-! ## The check finds a wrong bit (R21) -/

/-- One bit taken in: a shift, and 07h where the outgoing and the incoming bit differ. -/
theorem crcBit_eq (rem : BitVec 8) (bit : Bool) :
    crcBit rem bit = (rem <<< 1) ^^^ (if rem.msb ^^ bit then 0x07 else 0) := by
  unfold crcBit
  cases rem.msb <;> cases bit <;> simp

/-- The inversion of the three low bits is linear in what asks for it. -/
theorem inversion_xor (p q : Bool) :
    (if p ^^ q then (0x07 : BitVec 8) else 0) = (if p then 0x07 else 0) ^^^ (if q then 0x07 else 0) := by
  cases p <;> cases q <;> rfl

/-- One bit taken in is linear. -/
theorem crcBit_xor (r r' : BitVec 8) (b b' : Bool) : crcBit (r ^^^ r') (b ^^ b') = crcBit r b ^^^ crcBit r' b' := by
  have hmsb : ((r ^^^ r').msb ^^ (b ^^ b')) = ((r.msb ^^ b) ^^ (r'.msb ^^ b')) := by
    rw [BitVec.msb_xor, Bool.xor_assoc, Bool.xor_assoc, Bool.xor_left_comm r'.msb]
  rw [crcBit_eq, crcBit_eq, crcBit_eq, hmsb, inversion_xor, BitVec.shiftLeft_xor_distrib]
  ac_rfl

/-- The remainder is linear in the starting remainder and the bits taken in. -/
theorem foldl_crcBit_xor {α : Type} (f g : α → Bool) : ∀ (l : List α) (r r' : BitVec 8),
    (l.map fun i => f i ^^ g i).foldl crcBit (r ^^^ r') = (l.map f).foldl crcBit r ^^^ (l.map g).foldl crcBit r'
  | [], _, _ => rfl
  | i :: l, r, r' => by
    simp only [List.map_cons, List.foldl_cons, crcBit_xor]
    exact foldl_crcBit_xor f g l _ _

/-- The CRC-8 is linear. -/
theorem crcOf_xor (a b : BitVec 22) : crcOf (a ^^^ b) = crcOf a ^^^ crcOf b := by
  simp only [crcOf, bitsDown, BitVec.getMsbD_xor]
  exact foldl_crcBit_xor _ _ _ 0 0

/-- The check of a passing frame with some bits inverted is the check of those bits alone. -/
theorem checkPasses_xor {f : BitVec 32} (h : checkPasses f = true) (g : BitVec 32) :
    checkPasses (f ^^^ g) = checkPasses g := by
  have hf : frameCheck f = crcOf (frameContent f) := of_decide_eq_true h
  have hcheck : frameCheck (f ^^^ g) = frameCheck f ^^^ frameCheck g := BitVec.extractLsb'_xor
  have hcontent : frameContent (f ^^^ g) = frameContent f ^^^ frameContent g := BitVec.extractLsb'_xor
  simp only [checkPasses, hcheck, hcontent, crcOf_xor, hf, BitVec.xor_right_inj]

/-- A remainder other than 0 stays so while zeros are taken in. -/
theorem foldl_crcBit_zeros {r : BitVec 8} (h : r ≠ 0) : ∀ n : Nat, (List.replicate n false).foldl crcBit r ≠ 0
  | 0 => h
  | n + 1 => by
    have hstep : ∀ r : BitVec 8, r ≠ 0 → crcBit r false ≠ 0 := by decide
    exact foldl_crcBit_zeros (hstep r h) n

/-- A content of one bit: zeros, the bit, and zeros. -/
theorem bitsDown_single : ∀ i : Fin 22,
    bitsDown (1#22 <<< i.val) = List.replicate (21 - i.val) false ++ true :: List.replicate i.val false := by
  decide

/-- Taking zeros into the remainder 0 leaves it 0. -/
theorem foldl_crcBit_zero : ∀ n : Nat, (List.replicate n false).foldl crcBit 0 = 0
  | 0 => rfl
  | n + 1 => foldl_crcBit_zero n

/-- The content 0 has the CRC-8 0. -/
theorem crcOf_zero : crcOf 0 = 0 := by
  have hbits : bitsDown (0 : BitVec 22) = List.replicate 22 false := by decide
  rw [crcOf, hbits, foldl_crcBit_zero]

/-- A content of one bit has a CRC-8 other than 0. -/
theorem crcOf_single_ne (i : Fin 22) : crcOf (1#22 <<< i.val) ≠ 0 := by
  rw [crcOf, bitsDown_single, List.foldl_append, foldl_crcBit_zero]
  exact foldl_crcBit_zeros (r := crcBit 0 true) (by decide) i.val

/-- A bit of the content, of the check, or of the preamble, as the check sees it. -/
theorem frame_single : ∀ i : Fin 32,
    (8 ≤ i.val → frameCheck (1#32 <<< i.val) = 0) ∧ (i.val < 8 → frameCheck (1#32 <<< i.val) ≠ 0) ∧
      frameContent (1#32 <<< i.val) = if 8 ≤ i.val ∧ i.val < 30 then 1#22 <<< (i.val - 8) else 0 := by
  decide

/-- A single bit passes the check exactly where the check does not cover or hold it: in the preamble. -/
theorem checkPasses_single (i : Fin 32) : checkPasses (1#32 <<< i.val) = decide (30 ≤ i.val) := by
  obtain ⟨hhigh, hlow, hcontent⟩ := frame_single i
  rw [checkPasses, hcontent, decide_eq_decide]
  by_cases h8 : i.val < 8
  · rw [if_neg (by omega), crcOf_zero]
    exact iff_of_false (hlow h8) (by omega)
  rw [hhigh (Nat.not_lt.mp h8)]
  by_cases h30 : i.val < 30
  · rw [if_pos (by omega)]
    exact iff_of_false (crcOf_single_ne ⟨i.val - 8, by omega⟩).symm (by omega)
  · rw [if_neg (by omega), crcOf_zero]
    exact iff_of_true rfl (by omega)

/-- Settles O12: a built frame passes and is read back, and by linearity the check of a wrong bit is that of the bit alone. -/
theorem frameRoundTripAndCheck : Obligations.FrameRoundTripAndCheck :=
  ⟨fun x => ⟨framePreamble_encodeFrame x, checkPasses_encodeFrame x, frameOf_encodeFrame x⟩,
   fun x i => (checkPasses_xor (checkPasses_encodeFrame x) _).trans (checkPasses_single i)⟩

end Sys2Proof
end

section
/-! Bits and frames at the Tally Receiver: what an edge, the expiry of the quiet measurement and a complete frame do in each
reception state, and the statements on them (R17 to R19, R22, R23, R26 to R28). -/

namespace Sys2Proof.Machine

/-! ## Edges short of a thirty-second bit (R17, R18) -/

section Bits

variable {s : State} {bit : Bool}

/-- TCLK_RISING_EDGE of a running part. -/
theorem tclkRisingEdge_running (hm : s.mode = .running) : exec (.tclkRisingEdge bit) s = .next (takeBit bit s) :=
  event_running hm

/-- In OFF, in SYNC, and in WAIT with a 1, the quiet measurement alone starts again. -/
theorem takeBit_ignored
    (h : s.receiver.reception = .off ∨ s.receiver.reception = .sync ∨ (s.receiver.reception = .wait ∧ bit = true)) :
    takeBit bit s = s.withQuiet false := by
  obtain hr | hr | ⟨hr, rfl⟩ := h <;> simp [takeBit, hr]

/-- A 0 in WAIT begins a frame. -/
theorem takeBit_begins (hr : s.receiver.reception = .wait) (hb : bit = false) :
    takeBit bit s = (s.withQuiet false).withReception (.receiving 0 0) := by
  simp [takeBit, hr, hb]

/-- A bit short of the thirty-second is stored. -/
theorem takeBit_stores {n : Fin 31} {bits : BitVec 32} (hr : s.receiver.reception = .receiving n.castSucc bits) :
    takeBit bit s = (s.withQuiet false).withReception (.receiving n.succ (storeBit bits bit)) := by
  have hn : n.castSucc.val + 1 < 32 := Nat.succ_lt_succ n.isLt
  simp only [takeBit, hr, dif_pos hn]
  rfl

/-- The thirty-second bit completes a frame, which is judged. -/
theorem takeBit_completes {bits : BitVec 32} (hr : s.receiver.reception = .receiving 31 bits) :
    takeBit bit s = judgeFrame (storeBit bits bit) ((s.withQuiet false).withReception .wait) := by
  simp only [takeBit, hr]
  rfl

/-- The bit stored is the lowest. -/
theorem storeBit_getLsbD_zero (bits : BitVec 32) (bit : Bool) : (storeBit bits bit).getLsbD 0 = bit := by
  simp [storeBit]

/-- The earlier bits move up by one. -/
theorem storeBit_getLsbD_succ (bits : BitVec 32) (bit : Bool) {j : Nat} (h : j < 31) :
    (storeBit bits bit).getLsbD (j + 1) = bits.getLsbD j := by
  have hj : j + 1 < 32 := Nat.succ_lt_succ h
  simp [storeBit, hj, BitVec.getLsbD_eq_getElem (Nat.lt_of_succ_lt hj)]

end Bits

/-- Settles O13, by the reception state. -/
theorem tclkEdgeByReception : Obligations.TclkEdgeByReception := by
  intro bit s hm
  rw [tclkRisingEdge_running hm]
  refine ⟨fun r hcase hr => ?_, fun hr hb => ?_, fun n bits hr => ?_⟩
  · subst hr
    rw [takeBit_ignored hcase]
    rfl
  · rw [takeBit_begins hr hb]
    rfl
  · exact ⟨storeBit bits bit, congrArg _ (takeBit_stores hr), storeBit_getLsbD_zero bits bit,
      fun j hj => storeBit_getLsbD_succ bits bit hj⟩

/-! ## The expiry of the quiet measurement (R19) -/

/-- QUIET_TIME_EXPIRY of a running part. -/
theorem quietTimeExpiry_running {s : State} (hm : s.mode = .running) :
    exec .quietTimeExpiry s = .next (expireQuiet s) := event_running hm

section Quiet

variable {s : State}

/-- A frame in progress ends as a framing error. -/
theorem expireQuiet_receiving {n : Fin 32} {bits : BitVec 32} (hr : s.receiver.reception = .receiving n bits) :
    expireQuiet s = framingError ((s.withQuiet true).withReception .wait) := by
  simp only [expireQuiet, hr]

/-- SYNC ends in WAIT. -/
theorem expireQuiet_sync (hr : s.receiver.reception = .sync) :
    expireQuiet s = (s.withQuiet true).withReception .wait := by
  simp only [expireQuiet, hr]

/-- WAIT and OFF stay. -/
theorem expireQuiet_idle (h : s.receiver.reception = .wait ∨ s.receiver.reception = .off) :
    expireQuiet s = s.withQuiet true := by
  obtain hr | hr := h <;> simp only [expireQuiet, hr]

end Quiet

/-- Settles O16, by the reception state. -/
theorem quietExpiryByReception : Obligations.QuietExpiryByReception := by
  intro s hm
  rw [quietTimeExpiry_running hm]
  exact ⟨fun _ _ hr => congrArg _ (expireQuiet_receiving hr), fun hr => congrArg _ (expireQuiet_sync hr),
    fun hcase => congrArg _ (expireQuiet_idle hcase)⟩

/-! ## A complete frame (R18, R22) -/

/-- FRAME_COMPLETE is the edge that completes the frame. -/
theorem frameComplete_eq {s : State} {bit : Bool} {bits : BitVec 32} (hr : s.receiver.reception = .receiving 31 bits) :
    exec (.frameComplete bit) s = exec (.tclkRisingEdge bit) s := by
  have hlast : s.atLastBit = true := by simp [State.atLastBit, hr]
  exact if_pos hlast

/-- FRAME_COMPLETE judges the frame, with the receiver in WAIT. -/
theorem frameComplete_judges {s : State} {bit : Bool} {bits : BitVec 32} (hm : s.mode = .running)
    (hr : s.receiver.reception = .receiving 31 bits) :
    exec (.frameComplete bit) s =
      .next (judgeFrame (storeBit bits bit) ((s.withQuiet false).withReception .wait)) := by
  rw [frameComplete_eq hr, tclkRisingEdge_running hm, takeBit_completes hr]

section Judgement

variable {f : BitVec 32} {s : State}

/-- A wrong preamble comes first. -/
theorem judgeFrame_badPreamble (h : framePreamble f ≠ 0b10) : judgeFrame f s = framingError s := if_pos h

/-- A wrong check comes next. -/
theorem judgeFrame_badCheck (h : framePreamble f = 0b10) (hc : checkPasses f = false) : judgeFrame f s = checkError s := by
  simp [judgeFrame, h, hc]

/-- A good frame is judged against the record of its agent. -/
theorem judgeFrame_good (h : framePreamble f = 0b10) (hc : checkPasses f = true) :
    judgeFrame f s = goodFrame (frameOf f) s := by
  simp [judgeFrame, h, hc]

/-- A good frame from an agent that is not enabled is discarded (R23). -/
theorem goodFrame_disabled {x : Frame} (h : (s.agent x.agent).enabled = false) :
    goodFrame x s = unexpectedFrame x.agent s := by
  simp [goodFrame, h]

end Judgement

/-- Settles O14: each judgement of the frame, on the state in which it is judged. -/
theorem badFramesAreCounted : Obligations.BadFramesAreCounted := by
  intro bit bits s hm hr f r after
  have hx : exec (.frameComplete bit) s = .next (judgeFrame f ((s.withQuiet false).withReception .wait)) :=
    frameComplete_judges hm hr
  refine ⟨frameComplete_eq hr, fun hp => ?_, fun hp hc => ?_, fun hp hc ha => ?_⟩
  · rw [hx, judgeFrame_badPreamble hp]
    rfl
  · rw [hx, judgeFrame_badCheck hp hc]
    rfl
  · rw [hx, judgeFrame_good hp hc, goodFrame_disabled (s := (s.withQuiet false).withReception .wait) ha]
    rfl

/-! ## A good frame from an enabled agent (R26 to R28) -/

/-- The state after an accepted frame: the record of its agent with this count of frames missed, the CHANNEL event of a
REPORT, and these notices. -/
def State.accepting (s : State) (x : Frame) (missed : BitVec 16) (notices : List Notice) : State :=
  { s.modifyAgent x.agent fun r => { r with
      state := .active (x.sequence + 1), silenceElapsed := 0, accepted := r.accepted + 1, missed := missed } with
    paths := { s.paths with
      linkToEngine := s.paths.linkToEngine ++ (if x.keepalive then [] else [.channel x.agent x.channel x.amount])
      fromReceiver := s.paths.fromReceiver ++ notices } }

/-- The record of the frame's agent after an accepted frame. -/
theorem State.accepting_agent_same (s : State) (x : Frame) (missed : BitVec 16) (notices : List Notice) :
    (s.accepting x missed notices).agent x.agent =
      { s.agent x.agent with
        state := .active (x.sequence + 1), silenceElapsed := 0, accepted := (s.agent x.agent).accepted + 1
        missed := missed } :=
  State.modifyAgent_agent_same s x.agent fun r => { r with
    state := .active (x.sequence + 1), silenceElapsed := 0, accepted := r.accepted + 1, missed := missed }

/-- Every other agent is as it was. -/
theorem State.accepting_agent_other (s : State) {x : Frame} (missed : BitVec 16) (notices : List Notice) {a : Fin 8}
    (h : a ≠ x.agent) : (s.accepting x missed notices).agent a = s.agent a :=
  (State.modifyAgent_agent s x.agent a fun r => { r with
    state := .active (x.sequence + 1), silenceElapsed := 0, accepted := r.accepted + 1, missed := missed }).trans (if_neg h)

/-- A frame is accepted from a SILENT or LOST agent without a gap (R26). -/
theorem agentHeard_eq (x : Frame) (s : State) :
    agentHeard x s = s.accepting x (s.agent x.agent).missed [.status .agent] := by
  unfold agentHeard acceptedFrame
  cases hk : x.keepalive <;>
    simp [hk, State.accepting, State.modifyAgent, State.receiverNotice, State.sendLink, State.agent]

/-- A frame is accepted in order from an ACTIVE agent (R27). -/
theorem agentHeardAgain_inOrder {x : Frame} {e : BitVec 4} (h : x.sequence = e) (s : State) :
    agentHeardAgain x e s = s.accepting x (s.agent x.agent).missed [] := by
  unfold agentHeardAgain acceptedFrame
  cases hk : x.keepalive <;> simp [hk, h, State.accepting, State.modifyAgent, State.sendLink, State.agent]

/-- A frame is accepted with a gap from an ACTIVE agent (R27). -/
theorem agentHeardAgain_gap {x : Frame} {e : BitVec 4} (h : x.sequence ≠ e) (s : State) :
    agentHeardAgain x e s = s.accepting x (satAdd (s.agent x.agent).missed (x.sequence - e).toNat)
      [.error .seqGap (some x.agent)] := by
  unfold agentHeardAgain acceptedFrame
  cases hk : x.keepalive <;>
    simp [hk, h, State.accepting, State.modifyAgent, State.receiverNotice, State.sendLink, State.agent]

section Enabled

variable {x : Frame} {s : State} (he : (s.agent x.agent).enabled = true)
include he

/-- A good frame from an enabled agent that is SILENT or LOST. -/
theorem goodFrame_heard (h : ∀ e : BitVec 4, (s.agent x.agent).state ≠ .active e) :
    goodFrame x s = agentHeard x s := by
  cases hs : (s.agent x.agent).state with
  | active e => exact absurd hs (h e)
  | silent => simp [goodFrame, he, hs]
  | lost => simp [goodFrame, he, hs]

/-- A good frame from an enabled agent that is ACTIVE. -/
theorem goodFrame_heardAgain {e : BitVec 4} (h : (s.agent x.agent).state = .active e) :
    goodFrame x s = agentHeardAgain x e s := by
  simp [goodFrame, he, h]

/-- A good frame from an enabled agent is accepted, with some count of frames missed and some notices. -/
theorem goodFrame_accepts : ∃ missed notices, goodFrame x s = s.accepting x missed notices := by
  by_cases h : ∃ e : BitVec 4, (s.agent x.agent).state = .active e
  · obtain ⟨e, h⟩ := h
    rw [goodFrame_heardAgain he h]
    by_cases hs : x.sequence = e
    · exact ⟨_, _, agentHeardAgain_inOrder hs s⟩
    · exact ⟨_, _, agentHeardAgain_gap hs s⟩
  · exact ⟨_, _, (goodFrame_heard he fun e h' => h ⟨e, h'⟩).trans (agentHeard_eq x s)⟩

end Enabled

/-- Settles O15: the accepted frame, and then its count of frames missed and its notices by the agent's state. -/
theorem goodFramesAreAccepted : Obligations.GoodFramesAreAccepted := by
  intro bit bits s hm hr f x r accepted sent hp hc he
  let u : State := (s.withQuiet false).withReception .wait
  have hx : exec (.frameComplete bit) s = .next (goodFrame x u) :=
    (frameComplete_judges hm hr).trans (congrArg _ (judgeFrame_good hp hc))
  have hu : (u.agent x.agent).enabled = true := he
  obtain ⟨missed, notices, hgood⟩ := goodFrame_accepts hu
  have hsame (m : BitVec 16) (ns : List Notice) (h : goodFrame x u = u.accepting x m ns) :
      (goodFrame x u).agent x.agent = accepted m ∧ (goodFrame x u).paths = sent ns := by
    rw [h]
    exact ⟨u.accepting_agent_same x m ns, rfl⟩
  refine ⟨goodFrame x u, hx, ?_, fun a ha => ?_, fun h => ?_, fun e h hs => ?_, fun e h hs => ?_⟩
  · rw [hgood]
    rfl
  · rw [hgood, u.accepting_agent_other missed notices ha]
    rfl
  · exact hsame _ _ ((goodFrame_heard hu h).trans (agentHeard_eq x u))
  · exact hsame _ _ ((goodFrame_heardAgain hu h).trans (agentHeardAgain_inOrder hs u))
  · exact hsame _ _ ((goodFrame_heardAgain hu h).trans (agentHeardAgain_gap hs u))

end Sys2Proof.Machine
end

section
/-! Agent records at the Tally Receiver: one change of an agent with its notices, a visit of all agents in ascending order,
and the statements on ticks, field writes and link commands (R24, R29 to R34). -/

namespace Sys2Proof.Machine

/-! ## One agent changed, and what is told of it (R35, R36) -/

/-- Agent Aa's record replaced, with an AGENT_DOWN notice where it goes down and a status event where it is told of. -/
def State.updateAgent (s : State) (a : Fin 8) (r : Agent) (down told : Bool) : State :=
  { s.modifyAgent a fun _ => r with
    paths := { s.paths with
      linkToEngine := s.paths.linkToEngine ++ (if down then [.agentDown a] else [])
      fromReceiver := s.paths.fromReceiver ++ (if told then [.status .agent] else []) } }

/-- Two changes of one agent's record are one. -/
@[simp] theorem State.modifyAgent_modifyAgent (s : State) (a : Fin 8) (f g : Agent → Agent) :
    (s.modifyAgent a f).modifyAgent a g = s.modifyAgent a fun r => g (f r) := by
  simp [State.modifyAgent]

/-- A change of an agent that tells nothing. -/
theorem State.updateAgent_quiet (s : State) (a : Fin 8) (r : Agent) :
    s.updateAgent a r false false = s.modifyAgent a fun _ => r := by
  simp [State.updateAgent, State.modifyAgent]

/-- A change of an agent that is told of. -/
theorem State.updateAgent_told (s : State) (a : Fin 8) (r : Agent) :
    s.updateAgent a r false true = (s.modifyAgent a fun _ => r).receiverNotice (.status .agent) := by
  simp [State.updateAgent, State.modifyAgent, State.receiverNotice]

/-- A change of an agent that goes down and is told of. -/
theorem State.updateAgent_down (s : State) (a : Fin 8) (r : Agent) :
    s.updateAgent a r true true =
      ((s.modifyAgent a fun _ => r).sendLink (.agentDown a)).receiverNotice (.status .agent) := rfl

/-- A change of an agent that leaves its record and tells nothing is none. -/
theorem State.updateAgent_self (s : State) (a : Fin 8) : s.updateAgent a (s.agent a) false false = s := by
  simp [State.updateAgent, State.modifyAgent, State.agent]

/-- The agents of a list changed each by `f` of its own record, and told of in the order of the list. -/
def State.updateAgents (s : State) (l : List (Fin 8)) (f : Agent → Agent) (down told : Agent → Bool) : State :=
  { s with
    agents := Vector.ofFn fun a => if a ∈ l then f (s.agent a) else s.agent a
    paths := { s.paths with
      linkToEngine := s.paths.linkToEngine ++ (l.filter fun a => down (s.agent a)).map .agentDown
      fromReceiver := s.paths.fromReceiver ++ (l.filter fun a => told (s.agent a)).map fun _ => .status .agent } }

/-- The records after a change of one agent. -/
theorem State.updateAgent_agent (s : State) (a b : Fin 8) (r : Agent) (down told : Bool) :
    (s.updateAgent a r down told).agent b = if b = a then r else s.agent b :=
  State.modifyAgent_agent s a b fun _ => r

/-- The records after a visit of the agents of a list. -/
@[simp] theorem State.updateAgents_agent (s : State) (l : List (Fin 8)) (f : Agent → Agent) (down told : Agent → Bool)
    (b : Fin 8) : (s.updateAgents l f down told).agent b = if b ∈ l then f (s.agent b) else s.agent b := by
  simp [State.updateAgents, State.agent]

/-- The first agent of a list visited, and then the others. -/
theorem State.updateAgents_cons (s : State) {a : Fin 8} {l : List (Fin 8)} (h : a ∉ l) (f : Agent → Agent)
    (down told : Agent → Bool) :
    (s.updateAgent a (f (s.agent a)) (down (s.agent a)) (told (s.agent a))).updateAgents l f down told =
      s.updateAgents (a :: l) f down told := by
  let t : State := s.updateAgent a (f (s.agent a)) (down (s.agent a)) (told (s.agent a))
  have hat : t.agent a = f (s.agent a) := (State.updateAgent_agent ..).trans (if_pos rfl)
  have hother (b : Fin 8) (hb : b ≠ a) : t.agent b = s.agent b := (State.updateAgent_agent ..).trans (if_neg hb)
  have hfilter (p : Agent → Bool) : (l.filter fun b => p (t.agent b)) = l.filter fun b => p (s.agent b) :=
    List.filter_congr fun b hb => by rw [hother b fun e => h (e ▸ hb)]
  have hagents : (t.updateAgents l f down told).agents = (s.updateAgents (a :: l) f down told).agents := by
    refine State.agents_ext fun b => ?_
    rw [State.updateAgents_agent, State.updateAgents_agent]
    by_cases hb : b = a
    · subst hb
      simp [h, hat]
    · simp [hb, hother b hb]
  have hpaths : (t.updateAgents l f down told).paths = (s.updateAgents (a :: l) f down told).paths := by
    have hlink : t.paths.linkToEngine ++ (l.filter fun b => down (t.agent b)).map .agentDown =
        s.paths.linkToEngine ++ ((a :: l).filter fun b => down (s.agent b)).map .agentDown := by
      rw [hfilter]
      cases hd : down (s.agent a) <;> simp [t, State.updateAgent, hd]
    have htold : t.paths.fromReceiver ++ (l.filter fun b => told (t.agent b)).map (fun _ => .status .agent) =
        s.paths.fromReceiver ++ ((a :: l).filter fun b => told (s.agent b)).map fun _ => .status .agent := by
      rw [hfilter]
      cases hd : told (s.agent a) <;> simp [t, State.updateAgent, hd]
    simp only [State.updateAgents, hlink, htold]
    rfl
  have hframe : t.updateAgents l f down told =
      { s with agents := (t.updateAgents l f down told).agents, paths := (t.updateAgents l f down told).paths } := rfl
  rw [hframe, hagents, hpaths]
  rfl

/-- A visit of the agents of a list, one after another, is each of them changed by its own record. -/
theorem foldl_updateAgent {visit : Fin 8 → State → State} {f : Agent → Agent} {down told : Agent → Bool}
    (hvisit : ∀ (a : Fin 8) (s : State),
      visit a s = s.updateAgent a (f (s.agent a)) (down (s.agent a)) (told (s.agent a))) :
    ∀ (l : List (Fin 8)) (s : State), l.Nodup →
      l.foldl (fun t a => visit a t) s = s.updateAgents l f down told
  | [], s, _ => by
    have hagents : (s.updateAgents [] f down told).agents = s.agents := State.agents_ext fun b => by simp
    have hframe : s.updateAgents [] f down told =
        { s with agents := (s.updateAgents [] f down told).agents, paths := (s.updateAgents [] f down told).paths } := rfl
    rw [hframe, hagents]
    simp [State.updateAgents]
  | a :: l, s, hl => by
    obtain ⟨ha, hl⟩ := List.nodup_cons.mp hl
    rw [List.foldl_cons, foldl_updateAgent hvisit l _ hl, hvisit, State.updateAgents_cons s ha]

/-- A visit of all agents in ascending order. -/
theorem foldl_agentIds {visit : Fin 8 → State → State} {f : Agent → Agent} {down told : Agent → Bool}
    (hvisit : ∀ (a : Fin 8) (s : State),
      visit a s = s.updateAgent a (f (s.agent a)) (down (s.agent a)) (told (s.agent a))) (s : State) :
    agentIds.foldl (fun t a => visit a t) s = s.updateAgents agentIds f down told :=
  foldl_updateAgent hvisit agentIds s (List.nodup_finRange 8)

/-- Every agent is visited. -/
theorem State.updateAgents_agentIds_agent (s : State) (f : Agent → Agent) (down told : Agent → Bool) (a : Fin 8) :
    (s.updateAgents agentIds f down told).agent a = f (s.agent a) := by
  simp [agentIds]

/-! ## A tick (R29, R30) -/

/-- An agent's record after a tick. -/
def Agent.aged (r : Agent) : Agent :=
  if r.reachesLimit then
    { r with state := .lost, silenceElapsed := satInc r.silenceElapsed, timesLost := satInc r.timesLost }
  else if r.ages then { r with silenceElapsed := satInc r.silenceElapsed }
  else r

/-- A tick at one agent: its record ages, and it goes down and is told of where it reaches its limit. -/
theorem ageAgent_eq (a : Fin 8) (s : State) :
    ageAgent a s = s.updateAgent a (s.agent a).aged (s.agent a).reachesLimit (s.agent a).reachesLimit := by
  cases hreach : (s.agent a).reachesLimit with
  | true =>
    have hages : (s.agent a).ages = true := (Bool.and_eq_true_iff.mp hreach).1
    simp only [ageAgent, Agent.aged, hreach, hages, if_true, loseAgent, State.modifyAgent_modifyAgent,
      State.updateAgent_down]
    rfl
  | false =>
    cases hages : (s.agent a).ages with
    | true =>
      simp only [ageAgent, Agent.aged, hreach, hages, if_true, Bool.false_eq_true, if_false, State.updateAgent_quiet]
      rfl
    | false =>
      simp only [ageAgent, Agent.aged, hreach, hages, Bool.false_eq_true, if_false, State.updateAgent_self]

/-- A tick at the receiver: every agent ages, and those that reach their limit go down and are told of. -/
theorem takeReceiverTick_eq (s : State) :
    takeReceiverTick s = s.updateAgents agentIds Agent.aged Agent.reachesLimit Agent.reachesLimit :=
  foldl_agentIds ageAgent_eq s

/-- The agent ages, as the statements say it (R29). -/
theorem Agent.ages_iff (r : Agent) : r.ages = true ↔ (∃ e, r.state = .active e) ∧ r.silenceLimit ≠ 0 := by
  cases h : r.state <;> simp [Agent.ages, h]

/-- The agent reaches its limit, as the statements say it (R29). -/
theorem Agent.reachesLimit_iff (r : Agent) :
    r.reachesLimit = true ↔ r.ages = true ∧ r.silenceLimit.toNat ≤ r.silenceElapsed.toNat + 1 := by
  simp [Agent.reachesLimit]

/-- Below its largest value a saturating count goes up by one. -/
theorem satInc_of_lt {n : Nat} {x : BitVec n} (h : x.toNat + 1 < 2 ^ n) : satInc x = x + 1 := by
  refine if_neg fun e => ?_
  rw [e, BitVec.toNat_allOnes] at h
  omega

/-- An agent's record after a tick, as R29 and R30 say it. -/
theorem Agent.aged_eq (r : Agent) :
    r.aged = if (∃ e, r.state = .active e) ∧ r.silenceLimit ≠ 0 then
        if r.silenceLimit.toNat ≤ r.silenceElapsed.toNat + 1 then
          { r with state := .lost, silenceElapsed := satInc r.silenceElapsed, timesLost := satInc r.timesLost }
        else { r with silenceElapsed := r.silenceElapsed + 1 }
      else r := by
  simp only [Agent.aged, Agent.reachesLimit_iff, ← Agent.ages_iff]
  by_cases hages : r.ages = true
  · by_cases hlimit : r.silenceLimit.toNat ≤ r.silenceElapsed.toNat + 1
    · simp [hages, hlimit]
    · have hlt : r.silenceElapsed.toNat + 1 < 2 ^ 8 := Nat.lt_trans (Nat.not_le.mp hlimit) r.silenceLimit.isLt
      simp [hages, hlimit, satInc_of_lt hlt]
  · simp [hages]

/-- RECEIVER_TICK takes the tick in flight. -/
theorem receiverTick_takes {s : State} (hm : s.mode = .running) (ht : s.paths.ticksToReceiver ≠ 0) :
    exec .receiverTick s = .next (takeReceiverTick (popReceiverTick s)) := by
  rw [exec, execReceiverTick, if_neg ht, event_running hm]

/-- AGENT_LOST is the tick that brings the agent to its limit (log entry 5). -/
theorem agentLost_takes {s : State} {a : Fin 8} (hm : s.mode = .running) (ht : s.paths.ticksToReceiver ≠ 0)
    (ha : a ∈ s.lostAtTick) : exec (.agentLost a) s = .next (takeReceiverTick (popReceiverTick s)) := by
  have hreach : (s.agent a).reachesLimit = true := (List.mem_filter.mp ha).2
  rw [exec, execAgentLost, if_pos ⟨ht, hreach⟩, event_running hm]

/-- Settles O17: the visit of all agents that a tick is. -/
theorem receiverTickAgesAgents : Obligations.ReceiverTickAgesAgents := by
  intro s hm ht
  refine ⟨takeReceiverTick (popReceiverTick s), receiverTick_takes hm ht, ?_, fun a => ?_, ?_,
    fun a ha => agentLost_takes hm ht ha⟩
  · rw [takeReceiverTick_eq]
    rfl
  · rw [takeReceiverTick_eq, State.updateAgents_agentIds_agent]
    exact (s.agent a).aged_eq
  · rw [takeReceiverTick_eq]
    rfl

/-! ## Link commands (R33, R34) -/

/-- An agent's record after LINK RESTART. -/
def Agent.restarted (r : Agent) : Agent := if r.state = .silent then r else { r with state := .silent, silenceElapsed := 0 }

/-- A SILENT agent stays as it is. -/
theorem Agent.restarted_silent {r : Agent} (h : r.state = .silent) : r.restarted = r := if_pos h

/-- Another agent becomes SILENT. -/
theorem Agent.restarted_of_ne {r : Agent} (h : r.state ≠ .silent) :
    r.restarted = { r with state := .silent, silenceElapsed := 0 } := if_neg h

/-- LINK RESTART at one agent: SILENT, with a notice where it was ACTIVE, and told of where it changed. -/
theorem restartAgent_eq (a : Fin 8) (s : State) :
    restartAgent a s = s.updateAgent a (s.agent a).restarted (s.agent a).state.expected?.isSome
      (decide ((s.agent a).state ≠ .silent)) := by
  cases hs : (s.agent a).state with
  | silent =>
    simp only [restartAgent, hs, Agent.restarted_silent hs]
    exact (s.updateAgent_self a).symm
  | active e =>
    have hne : (s.agent a).state ≠ .silent := by simp [hs]
    simp only [restartAgent, hs, Agent.restarted_of_ne hne]
    rfl
  | lost =>
    have hne : (s.agent a).state ≠ .silent := by simp [hs]
    simp only [restartAgent, hs, Agent.restarted_of_ne hne]
    exact (s.updateAgent_told a _).symm

/-- LINK RESTART visits all agents. -/
theorem linkRestart_eq (s : State) :
    linkRestart s = (s.updateAgents agentIds Agent.restarted (fun r => r.state.expected?.isSome)
      fun r => decide (r.state ≠ .silent), .ok) :=
  congrArg accept (foldl_agentIds (down := fun r => r.state.expected?.isSome) (told := fun r => decide (r.state ≠ .silent))
    restartAgent_eq s)

/-- Settles O19: both commands as the answers of their owner. -/
theorem linkCommands : Obligations.LinkCommands := by
  refine fun c op s => ⟨fun ht => ?_, fun ht => ?_⟩
  · refine ⟨s.updateAgents agentIds Agent.restarted (fun r => r.state.expected?.isSome)
        fun r => decide (r.state ≠ .silent), command_answers ht ⟨rfl, rfl, fun _ _ => linkRestart_eq _⟩, rfl,
      fun a => ?_, rfl⟩
    rw [State.updateAgents_agentIds_agent, Agent.restarted]
  · refine ⟨State.mapAgents
        { s with receiver := { s.receiver with checkErrors := 0, framingErrors := 0, unexpected := 0 } }
        fun _ r => { r with accepted := 0, missed := 0, timesLost := 0 },
      command_answers ht ⟨rfl, rfl, fun _ _ => rfl⟩, rfl, fun a => ?_⟩
    exact State.mapAgents_agent _ _ a

/-! ## Field writes (R24, R31, R32) -/

section Rows

variable {s t : State} {c : CyclePhase} {w : Word} {r : ResultCode} (h : s.takes c (.write 0x08 w) = true)
include h

/-- RECEIVER_ENABLED_WRITE is the owner's answer to the commit. -/
theorem receiverEnabledWrite_commits {f : ReceiverField} (hsel : s.selected = some (.receiver f))
    (j : JudgedAs (writeReceiver f (s.host.commitValue w)) s t r) :
    exec (.receiverEnabledWrite c w) s = .next (t.committed c w r) := by
  rw [exec, execReceiverEnabledWrite]
  exact tableWrite_commits h (by rw [hsel]) j

/-- SILENCE_LIMIT_WRITE is the owner's answer to the commit. -/
theorem silenceLimitWrite_commits {a : Fin 8} (hsel : s.selected = some (.agent a .silenceLimit))
    (j : JudgedAs (writeSilenceLimit a (s.host.commitValue w)) s t r) :
    exec (.silenceLimitWrite c w) s = .next (t.committed c w r) := by
  rw [exec, execSilenceLimitWrite]
  exact tableWrite_commits h (by rw [hsel]) j

/-- AGENT_ENABLED_WRITE is the owner's answer to the commit. -/
theorem agentEnabledWrite_commits {a : Fin 8} (hsel : s.selected = some (.agent a .enabled))
    (j : JudgedAs (writeAgentEnabled a (s.host.commitValue w)) s t r) :
    exec (.agentEnabledWrite c w) s = .next (t.committed c w r) := by
  rw [exec, execAgentEnabledWrite]
  exact tableWrite_commits h (by rw [hsel]) j

end Rows

section Answers

variable {s : State} {v : Latch}

/-- The counts of the receiver record are read only. -/
theorem writeReceiver_readonly {f : ReceiverField} (hf : f ≠ .enabled) : writeReceiver f v s = (s, .readonly) := by
  cases f with
  | enabled => exact absurd rfl hf
  | checkErrors | framingErrors | unexpected => rfl

/-- Receiver enabled takes no value above 1. -/
theorem writeReceiver_above (hv : 1 < v.toNat) : writeReceiver .enabled v s = (s, .range) := by
  simp only [writeReceiver, yesNoOf_above hv, refuse]

/-- The value that receiver enabled has changes nothing. -/
theorem writeReceiver_same (hv : v = bit48 s.receiver.enabled) : writeReceiver .enabled v s = (s, .ok) := by
  simp only [writeReceiver, hv, yesNoOf_bit48, if_true, accept]

/-- Enabling the receiver: WAIT after 4 µs of quiet, else SYNC. -/
theorem writeReceiver_enables (hv : v = bit48 true) (he : s.receiver.enabled = false) :
    writeReceiver .enabled v s = ({ s with receiver :=
      { s.receiver with enabled := true, reception := if s.receiver.quiet then .wait else .sync } }, .ok) := by
  simp only [writeReceiver, hv, yesNoOf_bit48, he, Bool.true_eq_false, if_false, if_true, accept]

/-- Disabling the receiver: OFF. -/
theorem writeReceiver_disables (hv : v = bit48 false) (he : s.receiver.enabled = true) :
    writeReceiver .enabled v s =
      ({ s with receiver := { s.receiver with enabled := false, reception := .off } }, .ok) := by
  simp only [writeReceiver, hv, yesNoOf_bit48, he, Bool.false_eq_true, if_false, accept]

variable (a : Fin 8)

/-- The silence limit takes eight bits (R31). -/
theorem writeSilenceLimit_fits (hv : v.toNat ≤ 255) :
    writeSilenceLimit a v s = (s.modifyAgent a fun x => { x with silenceLimit := v.setWidth 8 }, .ok) := by
  simp only [writeSilenceLimit, bitsOf_fits (n := 8) (Nat.lt_succ_of_le hv), accept]

/-- The silence limit takes no larger value (R31). -/
theorem writeSilenceLimit_tooLarge (hv : 255 < v.toNat) : writeSilenceLimit a v s = (s, .range) := by
  simp only [writeSilenceLimit, bitsOf_tooLarge (n := 8) hv, refuse]

/-- Agent enabled takes no value above 1. -/
theorem writeAgentEnabled_above (hv : 1 < v.toNat) : writeAgentEnabled a v s = (s, .range) := by
  simp only [writeAgentEnabled, yesNoOf_above hv, refuse]

/-- The value that agent enabled has changes nothing. -/
theorem writeAgentEnabled_same (hv : v = bit48 (s.agent a).enabled) : writeAgentEnabled a v s = (s, .ok) := by
  simp only [writeAgentEnabled, hv, yesNoOf_bit48, if_true, accept]

/-- Enabling an agent changes nothing else (R32). -/
theorem writeAgentEnabled_enables (hv : v = bit48 true) (he : (s.agent a).enabled = false) :
    writeAgentEnabled a v s = (s.modifyAgent a fun x => { x with enabled := true }, .ok) := by
  simp only [writeAgentEnabled, hv, yesNoOf_bit48, he, Bool.true_eq_false, if_false, if_true, accept]

/-- An agent's record once it is disabled (R32). -/
def Agent.disabled (r : Agent) : Agent :=
  { r with enabled := false, state := .silent, silenceElapsed := if r.state = .silent then r.silenceElapsed else 0 }

/-- Disabling an agent: SILENT, with a notice where it was ACTIVE, and told of where its state changes (R32). -/
theorem disableAgent_eq (s : State) :
    disableAgent a s = s.updateAgent a (s.agent a).disabled (s.agent a).state.expected?.isSome
      (decide ((s.agent a).state ≠ .silent)) := by
  cases hs : (s.agent a).state with
  | silent =>
    have hrecord : (s.agent a).disabled = { s.agent a with enabled := false } := by
      simp only [Agent.disabled, hs, if_true]
    have hchange : disableAgent a s = s.modifyAgent a fun r => { r with enabled := false } := by
      simp only [disableAgent, hs]
    rw [hrecord, hchange]
    exact (s.updateAgent_quiet a _).symm
  | active e =>
    simp only [disableAgent, hs, Agent.disabled, State.modifyAgent_modifyAgent]
    rfl
  | lost =>
    simp only [disableAgent, hs, Agent.disabled, State.modifyAgent_modifyAgent]
    exact (s.updateAgent_told a _).symm

/-- Disabling an enabled agent (R32). -/
theorem writeAgentEnabled_disables (hv : v = bit48 false) (he : (s.agent a).enabled = true) :
    writeAgentEnabled a v s = (s.updateAgent a (s.agent a).disabled (s.agent a).state.expected?.isSome
      (decide ((s.agent a).state ≠ .silent)), .ok) := by
  simp only [writeAgentEnabled, hv, yesNoOf_bit48, he, Bool.false_eq_true, if_false, accept, disableAgent_eq]

end Answers

/-- Settles O18: the owner's answers, each as a commit of its row. -/
theorem linkFieldWrites : Obligations.LinkFieldWrites := by
  refine ⟨fun c w f s ht hsel => ?_, fun c w a s ht => ?_⟩
  · refine ⟨fun hf => ?_, ?_, ?_, ?_, ?_⟩
    · exact receiverEnabledWrite_commits ht hsel ⟨rfl, rfl, fun _ _ => writeReceiver_readonly hf⟩
    · rintro rfl hv
      exact receiverEnabledWrite_commits ht hsel ⟨rfl, rfl, fun _ _ => writeReceiver_above hv⟩
    · rintro rfl hv
      exact receiverEnabledWrite_commits ht hsel ⟨rfl, rfl, fun _ _ => writeReceiver_same hv⟩
    · rintro rfl hv he
      exact receiverEnabledWrite_commits ht hsel ⟨rfl, rfl, fun _ _ => writeReceiver_enables hv he⟩
    · rintro rfl hv he
      exact receiverEnabledWrite_commits ht hsel ⟨rfl, rfl, fun _ _ => writeReceiver_disables hv he⟩
  · refine ⟨fun hsel hv => ?_, fun hsel hv => ?_, fun hsel hv => ?_, fun hsel hv => ?_, fun hsel hv he => ?_,
      fun hsel hv he => ?_⟩
    · exact silenceLimitWrite_commits ht hsel ⟨rfl, rfl, fun _ _ => writeSilenceLimit_fits a hv⟩
    · exact silenceLimitWrite_commits ht hsel ⟨rfl, rfl, fun _ _ => writeSilenceLimit_tooLarge a hv⟩
    · exact agentEnabledWrite_commits ht hsel ⟨rfl, rfl, fun _ _ => writeAgentEnabled_above a hv⟩
    · exact agentEnabledWrite_commits ht hsel ⟨rfl, rfl, fun _ _ => writeAgentEnabled_same a hv⟩
    · exact agentEnabledWrite_commits ht hsel ⟨rfl, rfl, fun _ _ => writeAgentEnabled_enables a hv he⟩
    · refine ⟨s.updateAgent a (s.agent a).disabled (s.agent a).state.expected?.isSome
          (decide ((s.agent a).state ≠ .silent)),
        agentEnabledWrite_commits ht hsel ⟨rfl, rfl, fun _ _ => writeAgentEnabled_disables a hv he⟩, rfl,
        fun b hb => (State.updateAgent_agent ..).trans (if_neg hb), (State.updateAgent_agent ..).trans (if_pos rfl), ?_⟩
      by_cases hs : (s.agent a).state = .silent <;> simp [State.updateAgent, hs]

end Sys2Proof.Machine
end

section
/-! The table port: a fetch latched, the field that TSEL and TFIELD select, what each field reads as, and the statement on them
(R25, R63, R64, R136, R137, R151, R165, R166, R169 to R172). -/

namespace Sys2Proof.Machine

/-! ## A fetch latched (R165, R166) -/

/-- The three latches together hold the value fetched. -/
theorem HostPort.latchFetch_value (h : HostPort) (x : Fetched) :
    (h.latchFetch x).latchHigh ++ (h.latchFetch x).latchMid ++ (h.latchFetch x).latchLow = x.value := by
  apply BitVec.eq_of_getLsbD_eq
  intro i hi
  simp only [HostPort.latchFetch, BitVec.getLsbD_append, BitVec.getLsbD_extractLsb']
  by_cases hlow : i < 16
  · simp [hlow]
  · by_cases hmid : i - 16 < 16
    · simp [hlow, hmid, show 16 + (i - 16) = i by omega]
    · simp [hlow, hmid, show 32 + (i - 16 - 16) = i by omega, show i - 16 - 16 < 16 by omega]

/-- A read of TDATA0 fetches, and drives the low word fetched. -/
theorem tableFetch_takes {s : State} {c : CyclePhase} (h : s.takes c (.read 0x08) = true) :
    exec (.tableFetch c 0x08) s =
      .next ((fetchSelected s).withBus (s.busAfter c (some (fetchSelected s).host.latchLow))) := by
  have hread : readWindow 0x08 = fetchSelected := funext fun _ => if_pos rfl
  rw [exec, execTableFetch, hread]
  exact hostAccess_takes h rfl (fun _ => rfl) rfl

/-- A fetch that says ABSENT brings back 0 with OK (R165). -/
def Fetched.Regular (x : Fetched) : Prop := x.absent = true → x = absentField

/-- A present field is not absent. -/
theorem Fetched.regular_present (v : Latch) : (present v).Regular := nofun

/-- A refused read is not absent. -/
theorem Fetched.regular_readRefused (r : ResultCode) : (readRefused r).Regular := nofun

/-- A field that may be absent is absent in the encoding of R165. -/
theorem Fetched.regular_maybe (v : Option Latch) : (maybe v).Regular := by
  cases v with
  | none => exact fun _ => rfl
  | some v => exact regular_present v

/-- From an empty store every field of table HEAD is refused (R136). -/
theorem headRead_empty {q : Queue} (h : q.records = []) (f : HeadField) : headRead q f = readRefused .empty := by
  simp only [headRead, h]

/-- From an empty store every field of table HEADVALUE is refused (R137). -/
theorem headValueRead_empty {q : Queue} (h : q.records = []) (p : Fin 8) (f : HeadValueField) :
    headValueRead q p f = readRefused .empty := by
  simp only [headValueRead, h]

/-- Beyond the entries of the head record table HEADVALUE is refused (R137). -/
theorem headValueRead_beyond {q : Queue} {r : Record} {rs : List Record} {p : Fin 8} (h : q.records = r :: rs)
    (hp : r.entries.length ≤ p.val) (f : HeadValueField) : headValueRead q p f = readRefused .range := by
  simp only [headValueRead, h, List.getElem?_eq_none hp]

/-- A field of an entry of the head record is present (R137). -/
theorem headValueRead_entry {q : Queue} {r : Record} {rs : List Record} {p : Fin 8} {e : Entry} (h : q.records = r :: rs)
    (hp : r.entries[p.val]? = some e) (f : HeadValueField) :
    headValueRead q p f = present (match f with
      | .counter => num e.counter.val
      | .value => e.value.setWidth 48
      | .wrapped => bit48 e.wrapped
      | .stale => bit48 e.stale) := by
  simp only [headValueRead, h, hp]
  cases f <;> rfl

open Fetched in
/-- A fetch of a field of the head record is regular. -/
theorem headRead_regular (q : Queue) (f : HeadField) : (headRead q f).Regular := by
  cases h : q.records with
  | nil =>
    rw [headRead_empty h]
    exact regular_readRefused _
  | cons r rs =>
    unfold headRead
    rw [h]
    cases f with
    | overflowSet | chainOrigin | hop | chainTag | placementEpoch => exact regular_maybe _
    | _ => exact regular_present _

open Fetched in
/-- A fetch of a field of an entry of the head record is regular. -/
theorem headValueRead_regular (q : Queue) (p : Fin 8) (f : HeadValueField) : (headValueRead q p f).Regular := by
  cases h : q.records with
  | nil =>
    rw [headValueRead_empty h]
    exact regular_readRefused _
  | cons r rs =>
    cases hp : r.entries[p.val]? with
    | none =>
      rw [headValueRead_beyond h (List.getElem?_eq_none_iff.mp hp)]
      exact regular_readRefused _
    | some e =>
      rw [headValueRead_entry h hp]
      exact regular_present _

open Fetched in
/-- Every fetch is regular, whatever the table and the field. -/
theorem fetch_regular (s : State) (sel : Option Selection) : (fetch s sel).Regular := by
  cases sel with
  | none => exact regular_readRefused _
  | some sel =>
    cases sel with
    | counter k f => cases f <;> exact regular_present _
    | group g f => cases f with
      | returnState => exact regular_maybe _
      | _ => exact regular_present _
    | agent a f => cases f with
      | expected => exact regular_maybe _
      | _ => exact regular_present _
    | receiver f => cases f <;> exact regular_present _
    | timebase f => cases f <;> exact regular_present _
    | line n f => cases f <;> exact regular_present _
    | error c f => cases f with
      | detected | further => exact regular_present _
      | _ => exact regular_maybe _
    | head f => exact headRead_regular _ f
    | headValue p f => exact headValueRead_regular _ p f

/-! ## The field selected (R169) -/

/-- The field that a table code, an index and a field number select. -/
def selectionAt (table index field : Nat) : Option Selection :=
  match table with
  | 0 => (finOf 32 index).bind fun k => (counterFields[field]?).map (.counter k)
  | 1 => (finOf 8 index).bind fun g => (groupFields[field]?).map (.group g)
  | 2 => (finOf 8 index).bind fun a => (agentFields[field]?).map (.agent a)
  | 3 => (finOf 1 index).bind fun _ => (receiverFields[field]?).map .receiver
  | 4 => (finOf 1 index).bind fun _ => (timebaseFields[field]?).map .timebase
  | 5 => (finOf 16 index).bind fun n => (lineFields[field]?).map (.line n)
  | 6 => (errorClasses[index]?).bind fun c => (errorFields[field]?).map (.error c)
  | 7 => (finOf 1 index).bind fun _ => (headFields[field]?).map .head
  | 8 => (finOf 8 index).bind fun p => (headValueFields[field]?).map (.headValue p)
  | _ => none

/-- A word of a table code and an index has that table code. -/
theorem tselTable_ofNat {table index : Nat} (ht : table < 256) (hi : index < 256) :
    tselTable (BitVec.ofNat 16 (256 * table + index)) = table := by
  simp only [tselTable, BitVec.extractLsb'_toNat, BitVec.toNat_ofNat, Nat.shiftRight_eq_div_pow]
  omega

/-- A word of a table code and an index has that index. -/
theorem tselIndex_ofNat (table : Nat) {index : Nat} (hi : index < 256) :
    tselIndex (BitVec.ofNat 16 (256 * table + index)) = index := by
  simp only [tselIndex, BitVec.extractLsb'_toNat, BitVec.toNat_ofNat, Nat.shiftRight_eq_div_pow]
  omega

/-- What a table code, an index and a field number select, written to TSEL and TFIELD. -/
theorem selection_ofNat {table index : Nat} (ht : table < 256) (hi : index < 256) (f : Fin 256) :
    selection (BitVec.ofNat 16 (256 * table + index)) (BitVec.ofNat 8 f.val) = selectionAt table index f.val := by
  have hf : (BitVec.ofNat 8 f.val).toNat = f.val := by simp
  have hsel (tsel : Word) (tfield : BitVec 8) :
      selection tsel tfield = selectionAt (tselTable tsel) (tselIndex tsel) tfield.toNat := rfl
  rw [hsel, tselTable_ofNat ht hi, tselIndex_ofNat table hi, hf]

/-- No number at or above n is an index. -/
theorem finOf_none {n x : Nat} (h : n ≤ x) : finOf n x = none := dif_neg (Nat.not_lt.mpr h)

/-- An index beyond its table, and a table code beyond the tables, select no field. -/
theorem selectionAt_none {table index : Nat} (h : [32, 8, 8, 1, 1, 16, 3, 1, 8].getD table 0 ≤ index) (field : Nat) :
    selectionAt table index field = none := by
  have hbeyond {n : Nat} {α : Type} (g : Fin n → Option α) (h : n ≤ index) : (finOf n index).bind g = none := by
    rw [finOf_none h, Option.bind_none]
  match table, h with
  | 0, h | 1, h | 2, h | 3, h | 4, h | 5, h | 7, h | 8, h => exact hbeyond _ h
  | 6, h =>
    have hnone : errorClasses[index]? = none := List.getElem?_eq_none h
    rw [selectionAt, hnone, Option.bind_none]
  | _ + 9, _ => rfl

/-! ## What the fields of a group read as (R63, R64) -/

/-- The bit of counter Ck in a mask (R170). -/
theorem counterBit_getLsbD (k j : Fin 32) : (1#32 <<< k.val).getLsbD j.val = decide (j = k) := by
  rw [← BitVec.twoPow_eq, BitVec.getLsbD_twoPow]
  simp [Fin.ext_iff, eq_comm]

/-- The mask of a set of counters, bit by bit (R170). -/
theorem maskOf_getLsbD (ks : List (Fin 32)) (j : Fin 32) : (maskOf ks).getLsbD j.val = decide (j ∈ ks) := by
  have hfold : ∀ (ks : List (Fin 32)) (m : CounterSet),
      (ks.foldl (fun m k => m ||| (1#32 <<< k.val)) m).getLsbD j.val = (m.getLsbD j.val || decide (j ∈ ks)) := by
    intro ks
    induction ks with
    | nil => simp
    | cons k ks ih =>
      intro m
      rw [List.foldl_cons, ih, BitVec.getLsbD_or, counterBit_getLsbD, Bool.or_assoc]
      simp
  exact (hfold ks 0).trans (by simp)

/-- Bits 31 to 0 of a member list are the mask (R170). -/
theorem membersCode_getLsbD (ks : List (Fin 32)) (j : Fin 32) : (membersCode ks).getLsbD j.val = decide (j ∈ ks) := by
  have hcount : (num (ks.length * 2 ^ 32)).getLsbD j.val = false := by
    rw [num, BitVec.getLsbD_ofNat, Nat.testBit_mul_two_pow]
    simp [show ¬ 32 ≤ j.val by omega]
  rw [membersCode, BitVec.getLsbD_or, hcount, Bool.false_or, BitVec.getLsbD_setWidth, maskOf_getLsbD]
  simp [show j.val < 48 by omega]

/-- Bits 35 to 32 of a member list are its length (R170). -/
theorem membersCode_count (ks : List (Fin 32)) : ((membersCode ks).extractLsb' 32 4).toNat = ks.length % 16 := by
  have hmask : ((maskOf ks).setWidth 48).extractLsb' 32 4 = 0#4 := by
    apply BitVec.eq_of_getLsbD_eq
    intro i hi
    simp
  have hcount : ((num (ks.length * 2 ^ 32)).extractLsb' 32 4).toNat = ks.length % 16 := by
    rw [num, BitVec.extractLsb'_toNat, BitVec.toNat_ofNat, Nat.shiftRight_eq_div_pow,
      show 2 ^ 48 = 2 ^ 32 * 2 ^ 16 by decide, Nat.mod_mul_right_div_self, Nat.mul_div_cancel _ (by decide)]
    omega
  rw [membersCode, BitVec.extractLsb'_or, hmask, BitVec.or_zero, hcount]

/-- Who is on the member list that is read (R64). -/
theorem membersCode_bit {s : State} {g : Fin 8} {k : Fin 32} :
    (membersCode (s.members g)).getLsbD k.val = true ↔ (s.counter k).group = some g := by
  rw [membersCode_getLsbD, decide_eq_true_iff, State.mem_members]

/-- A group that is not STALLED has no return state (R65). -/
theorem returnStateCode_none {st : GroupState} (h : st.isStalled = false) : returnStateCode st = none := by
  cases st with
  | stalled back => exact absurd h Bool.noConfusion
  | idle | running | held => rfl

/-- An agent that is not ACTIVE has no expected sequence (R25). -/
theorem expected_none {st : AgentState} (h : st = .silent ∨ st = .lost) : st.expected? = none := by
  obtain rfl | rfl := h <;> rfl

/-- Field state of table TIMEBASE says whether the Timebase runs (R171). -/
theorem timebaseRead_state (t : Timebase) : timebaseRead t .state = present (bit48 (decide (t.state ≠ .stopped))) := by
  cases h : t.state <;> simp [timebaseRead, h, bit48]

/-- A cause other than OVERFLOW has no overflow set (R96). -/
theorem Cause.overflowSet_none {c : Cause} (h : ∀ set : CounterSet, c ≠ .overflow set) : c.overflowSet? = none := by
  cases c with
  | overflow set => exact absurd rfl (h set)
  | host | periodic | chain => rfl

/-- A cause other than CHAIN has no chain origin and no hop (R96). -/
theorem Cause.chain_none {c : Cause} (h : ∀ (o : Fin 8) (hop : Nat), c ≠ .chain o hop) :
    c.origin? = none ∧ c.hop? = none := by
  cases c with
  | chain o hop => exact absurd rfl (h o hop)
  | host | periodic | overflow => exact ⟨rfl, rfl⟩

/-! ## The statement -/

/-- The first part of O49: a read of TDATA0. -/
theorem tableFetch_latches {c : CyclePhase} {s : State} (h : s.takes c (.read 0x08) = true) :
    let x : Fetched := fetch s s.selected
    ∃ t : State, exec (.tableFetch c 0x08) s = .next t ∧
      t = { s with host := t.host, bus := s.busAfter c (some t.host.latchLow) } ∧
      t.host.latchHigh ++ t.host.latchMid ++ t.host.latchLow = x.value ∧ t.host.absent = x.absent ∧
      t.host.result = x.code ∧ t.host.tsel = s.host.tsel ∧ t.host.tfield = s.host.tfield ∧
      (s.selected = none → x = ⟨0, false, .range⟩) ∧ (x.absent = true → x = ⟨0, true, .ok⟩) := by
  intro x
  exact ⟨_, tableFetch_takes h, rfl, s.host.latchFetch_value x, rfl, rfl, rfl, rfl,
    fun hnone => congrArg (fetch s) hnone, fetch_regular s s.selected⟩

/-- The second part of O49: each table's fields under their numbers, and none beyond its index range. -/
theorem selection_tables {names : Nat → Nat → List Selection → Prop}
    (hnames : ∀ table index fields, table < 256 → index < 256 →
      (∀ field : Nat, selectionAt table index field = fields[field]?) → names table index fields) :
    (∀ k : Fin 32, names 0 k.val (counterFields.map (.counter k))) ∧
      (∀ g : Fin 8, names 1 g.val (groupFields.map (.group g))) ∧
      (∀ a : Fin 8, names 2 a.val (agentFields.map (.agent a))) ∧
      names 3 0 (receiverFields.map .receiver) ∧ names 4 0 (timebaseFields.map .timebase) ∧
      (∀ n : Fin 16, names 5 n.val (lineFields.map (.line n))) ∧
      (∀ c : ErrorClass, names 6 (match c with | .link => 0 | .loss => 1 | .chain => 2) (errorFields.map (.error c))) ∧
      names 7 0 (headFields.map .head) ∧ (∀ p : Fin 8, names 8 p.val (headValueFields.map (.headValue p))) ∧
      ∀ table index : Nat, index < 256 → table < 256 → [32, 8, 8, 1, 1, 16, 3, 1, 8].getD table 0 ≤ index →
        names table index [] := by
  have hfields {α : Type} (fields : List α) (f : α → Selection) (n : Nat) :
      (fields[n]?).map f = (fields.map f)[n]? := List.getElem?_map.symm
  have hindexed {n : Nat} (k : Fin n) (g : Fin n → Option Selection) : (finOf n k.val).bind g = g k := by
    rw [finOf_val, Option.bind_some]
  refine ⟨fun k => ?_, fun g => ?_, fun a => ?_, ?_, ?_, fun n => ?_, fun c => ?_, ?_, fun p => ?_, ?_⟩
  · exact hnames 0 _ _ (by decide) (by omega) fun f => (hindexed k _).trans (hfields _ _ f)
  · exact hnames 1 _ _ (by decide) (by omega) fun f => (hindexed g _).trans (hfields _ _ f)
  · exact hnames 2 _ _ (by decide) (by omega) fun f => (hindexed a _).trans (hfields _ _ f)
  · exact hnames 3 0 _ (by decide) (by decide) fun f => hfields receiverFields _ f
  · exact hnames 4 0 _ (by decide) (by decide) fun f => hfields timebaseFields _ f
  · exact hnames 5 _ _ (by decide) (by omega) fun f => (hindexed n _).trans (hfields _ _ f)
  · cases c <;> exact hnames 6 _ _ (by decide) (by decide) fun f => hfields errorFields _ f
  · exact hnames 7 0 _ (by decide) (by decide) fun f => hfields headFields _ f
  · exact hnames 8 _ _ (by decide) (by omega) fun f => (hindexed p _).trans (hfields _ _ f)
  · intro table index hi ht hbeyond
    exact hnames table index [] ht hi fun f => selectionAt_none hbeyond f

/-- A read of table HEAD sees the records of the store, the value use and the wait list. -/
theorem fetch_head {s : State} {r : Record} {rs : List Record} (h : s.queue.records = r :: rs) (f : HeadField) :
    fetch s (some (.head f)) = headRead { s.queue with records := r :: rs } f := by
  rw [← h]
  rfl

/-- Settles O49: a read of TDATA0, the selection of each table, and then every table field by field. -/
theorem tableFetch : Obligations.TableFetch := by
  refine ⟨fun c s h => tableFetch_latches h,
    selection_tables fun _ _ _ ht hi h f => (selection_ofNat ht hi f).trans (h f.val), ?_⟩
  intro s reads absent n yesNo orNone
  have hnone (g : Option (Fin 8)) : groupNumber g = orNone g := by cases g <;> rfl
  refine ⟨fun k => ?counter, fun g => ?group, fun a => ?agent, ⟨rfl, rfl, rfl, rfl⟩, ⟨?timebase, rfl, rfl⟩, fun l => ?line,
    fun c => ⟨fun h => ?clear, fun first further h => ?detected⟩, fun h f p v => ?empty,
    fun r rs h => ⟨?head, fun p => ⟨fun hp v => ?beyond, fun e he => ?entry⟩⟩⟩
  case counter =>
    exact ⟨rfl, congrArg present (hnone _), rfl, rfl, rfl, rfl, rfl, rfl, rfl, rfl, rfl, rfl⟩
  case group =>
    refine ⟨rfl, fun back h => ?_, fun h => ?_, fun k => membersCode_bit, membersCode_count _, rfl, rfl, rfl, rfl, rfl, rfl, rfl,
      congrArg present (hnone _), rfl, rfl, rfl, rfl, rfl, rfl⟩
    · cases back <;> exact congrArg (fun st => maybe (returnStateCode st)) h
    · exact congrArg maybe (returnStateCode_none h)
  case agent =>
    refine ⟨rfl, rfl, fun e h => ?_, fun h => ?_, rfl, rfl, rfl, rfl, rfl⟩
    · have hexpected : (s.agent a).state.expected? = some e := congrArg AgentState.expected? h
      exact congrArg (fun x => maybe (x.map (·.setWidth 48))) hexpected
    · exact congrArg (fun x => maybe (x.map (·.setWidth 48))) (expected_none h)
  case timebase => exact timebaseRead_state s.timebase
  case line => exact ⟨rfl, rfl, rfl⟩
  case clear =>
    have hclear (f : ErrorField) : fetch s (some (.error c f)) = errorRead .clear f := congrArg (errorRead · f) h
    exact ⟨hclear _, hclear _, hclear _, hclear _, hclear _⟩
  case detected =>
    have hread (f : ErrorField) : fetch s (some (.error c f)) = errorRead (.detected first further) f :=
      congrArg (errorRead · f) h
    refine ⟨hread _, hread _, fun hs => (hread _).trans ?_, fun x hs => (hread _).trans ?_, hread _, hread _⟩
    · exact congrArg (fun subject => maybe (subject.map fun x => num x.val)) hs
    · exact congrArg (fun subject => maybe (subject.map fun x => num x.val)) hs
  case empty => exact ⟨headRead_empty h f, headValueRead_empty h p v⟩
  case head =>
    have hread := fetch_head h
    have hset {v : Option CounterSet} (h : r.cause.overflowSet? = v) :
        fetch s (some (.head .overflowSet)) = maybe (v.map (·.setWidth 48)) := h ▸ hread _
    have horigin {v : Option (Fin 8)} (h : r.cause.origin? = v) :
        fetch s (some (.head .chainOrigin)) = maybe (v.map fun x => num x.val) := h ▸ hread _
    have hhop {v : Option Nat} (h : r.cause.hop? = v) : fetch s (some (.head .hop)) = maybe (v.map num) := h ▸ hread _
    have htag {v : Option (BitVec 8)} (h : r.chainTag = v) :
        fetch s (some (.head .chainTag)) = maybe (v.map (·.setWidth 48)) := h ▸ hread _
    have hplaced {v : Option Epoch} (h : r.placementEpoch = v) : fetch s (some (.head .placementEpoch)) = maybe v :=
      h ▸ hread _
    exact ⟨hread _, hread _, hread _, hread _, hread _, hread _, fun _ hc => hset (congrArg _ hc),
      fun hc => hset (Cause.overflowSet_none hc), fun _ _ hc => ⟨horigin (congrArg _ hc), hhop (congrArg _ hc)⟩,
      fun hc => ⟨horigin (Cause.chain_none hc).1, hhop (Cause.chain_none hc).2⟩, fun _ ht => htag ht, fun ht => htag ht,
      hread _, fun _ he => hplaced he, fun he => hplaced he, hread _⟩
  case beyond => exact headValueRead_beyond h hp v
  case entry =>
    have hread := headValueRead_entry h he
    exact ⟨hread .counter, hread .value, hread .wrapped, hread .stale⟩

end Sys2Proof.Machine
end

section
/-! What no event but its owner's changes: the records that the conditions of the receiver, of IRQn and of the configuration
look at, and every operation that leaves them all alone (R24, R25, R44, R52, R80, R157). -/

namespace Sys2Proof.Machine

/-- What the conditions look at in a counter record. -/
def Counter.config (c : Counter) : BitVec 12 × BitVec 12 × Source := (c.bandLow, c.bandHigh, c.source)

/-- The state `t` holds what `s` holds of all that the conditions look at: the receiver and agent records, the Event
Controller, and the bands, sources and chain nexts of the Count Engine. -/
structure State.SameConditions (s t : State) : Prop where
  receiver : t.receiver = s.receiver
  agents : t.agents = s.agents
  events : t.events = s.events
  config : ∀ k : Fin 32, (t.counter k).config = (s.counter k).config
  chainNext : ∀ g : Fin 8, (t.group g).chainNext = (s.group g).chainNext

namespace State.SameConditions

variable {s t u : State}

theorem refl (s : State) : s.SameConditions s := ⟨rfl, rfl, rfl, fun _ => rfl, fun _ => rfl⟩

theorem trans (h : s.SameConditions t) (h' : t.SameConditions u) : s.SameConditions u :=
  ⟨h'.receiver.trans h.receiver, h'.agents.trans h.agents, h'.events.trans h.events,
   fun k => (h'.config k).trans (h.config k), fun g => (h'.chainNext g).trans (h.chainNext g)⟩

/-- What one operation keeps and another before it kept, both keep. -/
theorem comp (h' : t.SameConditions u) (h : s.SameConditions t) : s.SameConditions u := h.trans h'

/-- An accepted command or commit does what its owner does. -/
theorem accepted (h : s.SameConditions t) : s.SameConditions (accept t).1 := h

/-- A change of other records alone. -/
theorem of_records (hr : t.receiver = s.receiver) (ha : t.agents = s.agents) (he : t.events = s.events)
    (hc : t.counters = s.counters) (hg : t.groups = s.groups) : s.SameConditions t :=
  ⟨hr, ha, he, fun k => congrArg _ (State.counter_congr hc k), fun g => congrArg _ (State.group_congr hg g)⟩

/-- A change of counters that keeps their configuration. -/
theorem mapCounters {f : Fin 32 → Counter → Counter} (s : State)
    (hf : ∀ k c, (f k c).config = c.config) : s.SameConditions (s.mapCounters f) where
  receiver := s.mapCounters_receiver f
  agents := s.mapCounters_agents f
  events := s.mapCounters_events f
  config k := (congrArg _ (s.mapCounters_counter f k)).trans (hf k _)
  chainNext g := congrArg _ (s.mapCounters_group f g)

/-- A change of a group's members that keeps their configuration. -/
theorem mapMembers {f : Counter → Counter} (g : Fin 8) (s : State)
    (hf : ∀ c, (f c).config = c.config) : s.SameConditions (s.mapMembers g f) :=
  mapCounters s fun _ c => by
    split
    · exact hf c
    · rfl

/-- A change of a counter that keeps its configuration. -/
theorem modifyCounter {f : Counter → Counter} (k : Fin 32) (s : State)
    (hf : (f (s.counter k)).config = (s.counter k).config) : s.SameConditions (s.modifyCounter k f) where
  receiver := rfl
  agents := rfl
  events := rfl
  config j := by
    rw [State.modifyCounter_counter]
    split <;> rename_i h
    · exact h ▸ hf
    · rfl
  chainNext _ := rfl

/-- A change of groups that keeps their chain next. -/
theorem mapGroups {f : Fin 8 → Group → Group} (s : State)
    (hf : ∀ g x, (f g x).chainNext = x.chainNext) : s.SameConditions (s.mapGroups f) where
  receiver := s.mapGroups_receiver f
  agents := s.mapGroups_agents f
  events := s.mapGroups_events f
  config k := congrArg _ (s.mapGroups_counter f k)
  chainNext g := (congrArg _ (s.mapGroups_group f g)).trans (hf g _)

/-- A change of a group that keeps its chain next. -/
theorem modifyGroup {f : Group → Group} (g : Fin 8) (s : State)
    (hf : ∀ x, (f x).chainNext = x.chainNext) : s.SameConditions (s.modifyGroup g f) where
  receiver := rfl
  agents := rfl
  events := rfl
  config _ := rfl
  chainNext h := by
    rw [State.modifyGroup_group]
    split <;> rename_i e
    · exact e ▸ hf _
    · rfl

/-- One operation after another, each keeping what the conditions look at. -/
theorem foldl {α : Type} {f : State → α → State} (hf : ∀ (u : State) (a : α), u.SameConditions (f u a)) (l : List α) (s : State) :
    s.SameConditions (l.foldl f s) :=
  foldl_keeps s.SameConditions f (fun u a h => h.trans (hf u a)) l s (refl s)

end State.SameConditions

open State (SameConditions)
open State.SameConditions

/-! ## Messages, the Timebase, the Line Inputs and the Host Port -/

section Sending

variable (s : State)

theorem sendLine_same (n : Fin 16) : s.SameConditions (s.sendLine n) := of_records rfl rfl rfl rfl rfl
theorem sendOverflows_same (ks : List (Fin 32)) : s.SameConditions (s.sendOverflows ks) := of_records rfl rfl rfl rfl rfl
theorem sendPlacement_same (g : Fin 8) : s.SameConditions (s.sendPlacement g) := of_records rfl rfl rfl rfl rfl
theorem sendDraft_same (m : DraftMessage) : s.SameConditions (s.sendDraft m) := of_records rfl rfl rfl rfl rfl
theorem engineNotice_same (m : Notice) : s.SameConditions (s.engineNotice m) := of_records rfl rfl rfl rfl rfl
theorem withBus_same (b : Bus) : s.SameConditions (s.withBus b) := of_records rfl rfl rfl rfl rfl
theorem withResult_same (r : ResultCode) : s.SameConditions (s.withResult r) := of_records rfl rfl rfl rfl rfl

end Sending

/-- A recognised change of level. -/
theorem changeLine_same (n : Fin 16) (s : State) : s.SameConditions (changeLine n s) := by
  rw [changeLine_eq]
  exact of_records rfl rfl rfl rfl rfl

/-- A commit to a line record. -/
theorem writeLine_same (n : Fin 16) (f : LineField) (v : Latch) (s : State) : s.SameConditions (writeLine n f v s).1 := by
  cases f with
  | enabled =>
    simp only [writeLine]
    split <;> exact of_records rfl rfl rfl rfl rfl
  | edge =>
    simp only [writeLine]
    split <;> exact of_records rfl rfl rfl rfl rfl
  | level => exact refl s

/-- TIMEBASE START. -/
theorem timebaseStart_same (s : State) : s.SameConditions (timebaseStart s).1 := by
  unfold timebaseStart
  split <;> exact of_records rfl rfl rfl rfl rfl

/-- TIMEBASE STOP. -/
theorem timebaseStop_same (s : State) : s.SameConditions (timebaseStop s).1 := by
  unfold timebaseStop
  split <;> exact of_records rfl rfl rfl rfl rfl

/-- A commit to the period code. -/
theorem writePeriodCode_same (v : Latch) (s : State) : s.SameConditions (writePeriodCode v s).1 := by
  unfold writePeriodCode
  split <;> exact of_records rfl rfl rfl rfl rfl

/-- A commit to the epoch. -/
theorem writeEpoch_same (v : Latch) (s : State) : s.SameConditions (writeEpoch v s).1 := by
  unfold writeEpoch
  split <;> exact of_records rfl rfl rfl rfl rfl

/-- A read of the window. -/
theorem readWindow_same (offset : BitVec 6) (s : State) : s.SameConditions (readWindow offset s) := by
  unfold readWindow
  split <;> exact of_records rfl rfl rfl rfl rfl

/-! ## The Snapshot Queue -/

/-- A placement. -/
theorem placeDraft_same (d : Draft) (e : Option Epoch) (answer : AnswerKind) (s : State) :
    s.SameConditions (placeDraft d e answer s) := by
  rw [placeDraft_frame]
  exact of_records rfl rfl rfl rfl rfl

/-- The grant step. -/
theorem grantStep_same (s : State) : s.SameConditions (grantStep s) :=
  grant_keeps s.SameConditions (fun u d h _ => h.trans (placeDraft_same d _ _ u))
    (fun _ _ h => h.trans (of_records rfl rfl rfl rfl rfl)) s.queue.waitList s (refl s)

/-- A draft judged. -/
theorem takeDraft_same (d : Draft) (s : State) : s.SameConditions (takeDraft d s) := by
  unfold takeDraft
  split
  · exact placeDraft_same d _ _ s
  · split <;> exact of_records rfl rfl rfl rfl rfl

/-- A WITHDRAW at the queue. -/
theorem takeWithdraw_same (g : Fin 8) (s : State) : s.SameConditions (takeWithdraw g s) := by
  have habandon : s.SameConditions (abandonDraft g s) := of_records rfl rfl rfl rfl rfl
  unfold takeWithdraw
  split
  · exact habandon.trans (grantStep_same _)
  · exact refl s

/-- QUEUE RELEASE. -/
theorem queueRelease_same (s : State) : s.SameConditions (queueRelease s).1 := by
  unfold queueRelease
  split
  · exact refl s
  · exact accepted (comp (grantStep_same _) (of_records rfl rfl rfl rfl rfl))

/-- QUEUE FLUSH. -/
theorem queueFlush_same (s : State) : s.SameConditions (queueFlush s).1 :=
  accepted (comp (grantStep_same _) (of_records rfl rfl rfl rfl rfl))

/-- A write of WATERMARK. -/
theorem writeWatermark_same (w : Word) (s : State) : s.SameConditions (writeWatermark w s).1 := by
  unfold writeWatermark
  split <;> exact of_records rfl rfl rfl rfl rfl

/-! ## Captures and source events -/

/-- A capture keeps the configuration of counters and groups (section 5.2). -/
theorem takeCapture_same (g : Fin 8) (cause : CaptureCause) (s : State) : s.SameConditions (takeCapture g cause s) := by
  refine ⟨?_, ?_, ?_, fun k => ?_, fun h => ?_⟩
  · rw [takeCapture_frame]
  · rw [takeCapture_frame]
  · rw [takeCapture_frame]
  · rw [takeCapture_counter]
    split <;> rfl
  · rw [takeCapture_group]
    split <;> rename_i e
    · exact e ▸ rfl
    · rfl

/-- A missed capture. -/
theorem missCapture_same (g : Fin 8) (s : State) : s.SameConditions (missCapture g s) :=
  comp (engineNotice_same _ _) (modifyGroup g s fun _ => rfl)

/-- A PERIODIC or OVERFLOW cause at a group. -/
theorem captureCause_same (g : Fin 8) (cause : CaptureCause) (s : State) : s.SameConditions (captureCause g cause s) := by
  unfold captureCause
  split
  · exact takeCapture_same g cause s
  · split
    · exact refl s
    · exact missCapture_same g s

/-- A chain request at its target. -/
theorem takeChainRequest_same (r : ChainRequest) (s : State) : s.SameConditions (takeChainRequest r s) := by
  unfold takeChainRequest
  split
  · exact takeCapture_same _ _ s
  · split
    · exact engineNotice_same s _
    · exact missCapture_same _ s

/-- An event changes no counter's configuration. -/
theorem Counter.take_config (c : Counter) (p : Position) (a : Amount) : (c.take p a).config = c.config := by
  have htested : (c.tested a).config = c.config := by
    unfold Counter.tested
    split <;> rfl
  cases p with
  | idle => rfl
  | suspended => exact htested
  | counting =>
    unfold Counter.take
    dsimp only
    split <;> exact htested

/-- An event at the counters. -/
theorem countEvent_same (src : Source) (a : Amount) (s : State) : s.SameConditions (countEvent src a s) :=
  mapCounters s fun _ c => by
    split
    · exact c.take_config _ a
    · rfl

/-- The losses of an event noted. -/
theorem noteLosses_same (lost : Fin 8 → Nat) (s : State) : s.SameConditions (noteLosses lost s) := by
  have hgroups : s.SameConditions (s.mapGroups fun g x => x.noteLoss (lost g)) :=
    mapGroups s fun g x => by
      unfold Group.noteLoss
      split <;> rfl
  have hreports := hgroups.trans (foldl (fun u g => engineNotice_same u (.error .stallLoss (some g)))
    (stallReportOrder s.freeCount (firstLosses lost s)) _)
  unfold noteLosses
  dsimp only
  split
  · exact hreports
  · exact hreports.trans (of_records rfl rfl rfl rfl rfl)

/-- One source event. -/
theorem applySource_same (src : Source) (a : Amount) (s : State) : s.SameConditions (applySource src a s) := by
  have hgroup (wrapped : List (Fin 32)) (u : State) (g : Fin 8) : u.SameConditions (overflowCauseAt wrapped u g) := by
    unfold overflowCauseAt
    dsimp only
    split
    · exact captureCause_same g _ u
    · exact refl u
  have hcounted := (countEvent_same src a s).trans (noteLosses_same (s.losses src a) _)
  exact (hcounted.trans (foldl (hgroup (s.wrappedBy src a)) groupIds _)).trans (sendOverflows_same _ _)

/-- A tick at the Count Engine. -/
theorem takeEngineTick_same (s : State) : s.SameConditions (takeEngineTick s) := by
  have hgroup (u : State) (g : Fin 8) : u.SameConditions (countdownAt u g) := by
    unfold countdownAt
    dsimp only
    split
    · split
      · exact comp (captureCause_same g _ _) (modifyGroup g u fun _ => rfl)
      · exact modifyGroup g u fun _ => rfl
    · exact refl u
  exact (applySource_same .tick 1 s).trans (foldl hgroup groupIds _)

/-- An AGENT_DOWN notice at the counters. -/
theorem markStale_same (a : Fin 8) (s : State) : s.SameConditions (markStale a s) :=
  mapCounters s fun _ c => by split <;> rfl

/-! ## Group commands and answers -/

section Groups

variable (g : Fin 8) (s : State)

/-- GROUP START. -/
theorem groupStart_same : s.SameConditions (groupStart g s).1 := by
  unfold groupStart
  split
  · split
    · exact refl s
    · exact accepted (comp (mapMembers g _ fun _ => rfl) (modifyGroup g s fun _ => rfl))
  · exact refl s

/-- GROUP HOLD. -/
theorem groupHold_same : s.SameConditions (groupHold g s).1 := by
  unfold groupHold
  split
  · exact refl s
  · exact accepted (modifyGroup g s fun _ => rfl)
  · exact refl s
  · exact accepted (modifyGroup g s fun _ => rfl)

/-- GROUP RESUME. -/
theorem groupResume_same : s.SameConditions (groupResume g s).1 := by
  unfold groupResume
  split
  · exact refl s
  · exact refl s
  · exact accepted (modifyGroup g s fun _ => rfl)
  · exact accepted (modifyGroup g s fun _ => rfl)

/-- A WITHDRAW sent where a draft is outstanding. -/
theorem withdrawIfOutstanding_same : s.SameConditions (withdrawIfOutstanding g s) := by
  unfold withdrawIfOutstanding
  split
  · exact sendDraft_same s _
  · exact refl s

/-- GROUP STOP. -/
theorem groupStop_same : s.SameConditions (groupStop g s).1 := by
  unfold groupStop
  split
  · exact refl s
  · exact accepted (comp (withdrawIfOutstanding_same g _) (modifyGroup g s fun _ => rfl))

/-- GROUP CAPTURE. -/
theorem groupCapture_same : s.SameConditions (groupCapture g s).1 := by
  unfold groupCapture
  split
  · exact accepted (takeCapture_same g _ s)
  · split <;> exact refl s

/-- GROUP CLEAR. -/
theorem groupClear_same : s.SameConditions (groupClear g s).1 := by
  unfold groupClear
  split
  · exact accepted (mapMembers g s fun _ => rfl)
  · exact refl s

/-- GROUP RELOAD. -/
theorem groupReload_same : s.SameConditions (groupReload g s).1 := by
  unfold groupReload
  split
  · exact accepted (mapMembers g s fun _ => rfl)
  · exact refl s

/-- COUNTING RESET. -/
theorem countingReset_same : s.SameConditions (countingReset s).1 :=
  accepted (comp (mapCounters _ fun _ _ => rfl) (comp (mapGroups _ fun _ _ => rfl)
    (foldl (fun u g => withdrawIfOutstanding_same g u) groupIds s)))

/-- A final answer at its group. -/
theorem clearOutstanding_same : s.SameConditions (clearOutstanding g s) := modifyGroup g s fun _ => rfl

/-- A WAITING answer leaves chain next alone. -/
theorem Group.stall_chainNext (x : Group) : x.stall.chainNext = x.chainNext := by
  unfold Group.stall
  split <;> rfl

/-- A PLACED answer leaves chain next alone. -/
theorem Group.unstall_chainNext (x : Group) : x.unstall.chainNext = x.chainNext := by
  unfold Group.unstall
  split <;> rfl

end Groups

/-! ## Writes of membership and of contents -/

/-- A commit to a counter's group field. -/
theorem writeMembership_same (k : Fin 32) (v : Latch) (s : State) : s.SameConditions (writeMembership k v s).1 := by
  unfold writeMembership
  dsimp only
  split
  · unfold orRange
    split
    · exact refl s
    · dsimp only
      split
      · exact refl s
      · exact accepted (modifyCounter k s rfl)
  · exact refl s

/-- A commit to a counter's value or preset. -/
theorem writeContents_same {k : Fin 32} {f : Tally → Counter → Counter} (v : Latch) (s : State)
    (hf : ∀ x c, (f x c).config = c.config) : s.SameConditions (writeContents k v f s).1 := by
  unfold writeContents
  split
  · unfold orRange
    split
    · exact refl s
    · exact accepted (modifyCounter k s (hf _ _))
  · exact refl s

end Sys2Proof.Machine
end

section
/-! What every event keeps: the conditions of the receiver and its agents, of IRQn, and of the configuration of the Count Engine,
each at the operations that change what it looks at (R24, R25, R44, R52, R80, R157). -/

namespace Sys2Proof.Machine

/-- Each of the three conditions holds of `t` if it holds of `s`. -/
structure State.KeepsConditions (s t : State) : Prop where
  link : s.LinkSound → t.LinkSound
  irq : s.IrqSound → t.IrqSound
  config : s.BandsSound ∧ s.NoSelfReference → t.BandsSound ∧ t.NoSelfReference

/-! ## The conditions look at these records alone -/

namespace State.SameConditions

variable {s t : State} (h : s.SameConditions t)
include h

/-- The condition of the receiver and its agents. -/
theorem linkSound (hs : s.LinkSound) : t.LinkSound := by
  refine ⟨?_, fun a => ?_⟩
  · rw [h.receiver]
    exact hs.1
  · rw [State.agent_congr h.agents]
    exact hs.2 a

/-- The condition of IRQn. -/
theorem irqSound (hs : s.IrqSound) : t.IrqSound := by
  rw [State.IrqSound, h.events]
  exact hs

/-- The conditions of the configuration. -/
theorem configSound (hs : s.BandsSound ∧ s.NoSelfReference) : t.BandsSound ∧ t.NoSelfReference := by
  obtain ⟨hbands, hsources, hchains⟩ := hs
  have hconfig (k : Fin 32) : (t.counter k).bandLow = (s.counter k).bandLow ∧
      (t.counter k).bandHigh = (s.counter k).bandHigh ∧ (t.counter k).source = (s.counter k).source := by
    simpa [Counter.config] using h.config k
  refine ⟨fun k => ?_, fun k => ?_, fun g => ?_⟩
  · obtain ⟨hlow, hhigh, -⟩ := hconfig k
    rw [hlow, hhigh]
    exact hbands k
  · obtain ⟨-, -, hsource⟩ := hconfig k
    rw [hsource]
    exact hsources k
  · rw [h.chainNext g]
    exact hchains g

/-- What leaves these records alone keeps the conditions. -/
theorem keeps : s.KeepsConditions t := ⟨h.linkSound, h.irqSound, h.configSound⟩

end State.SameConditions

namespace State.KeepsConditions

variable {s t u : State}

theorem refl (s : State) : s.KeepsConditions s := ⟨id, id, id⟩

theorem trans (h : s.KeepsConditions t) (h' : t.KeepsConditions u) : s.KeepsConditions u :=
  ⟨h'.link ∘ h.link, h'.irq ∘ h.irq, h'.config ∘ h.config⟩

/-- An accepted command or commit does what its owner does. -/
theorem accepted (h : s.KeepsConditions t) : s.KeepsConditions (accept t).1 := h

/-- A change of the receiver, the agents and the paths alone. -/
theorem of_link (hframe : t = { s with receiver := t.receiver, agents := t.agents, paths := t.paths })
    (hlink : s.LinkSound → t.LinkSound) : s.KeepsConditions t := by
  refine ⟨hlink, ?_, ?_⟩
  · rw [hframe]
    exact id
  · rw [hframe]
    exact id

/-- A change of the Event Controller and the paths alone. -/
theorem of_events (hframe : t = { s with events := t.events, paths := t.paths }) (hirq : s.IrqSound → t.IrqSound) :
    s.KeepsConditions t := by
  refine ⟨?_, hirq, ?_⟩
  · rw [hframe]
    exact id
  · rw [hframe]
    exact id

/-- A change of counters and groups alone. -/
theorem of_engine (hframe : t = { s with counters := t.counters, groups := t.groups })
    (hconfig : s.BandsSound ∧ s.NoSelfReference → t.BandsSound ∧ t.NoSelfReference) : s.KeepsConditions t := by
  refine ⟨?_, ?_, hconfig⟩
  · rw [hframe]
    exact id
  · rw [hframe]
    exact id

/-- A state that holds the reset values of these records. -/
theorem of_reset (h : State.reset.SameConditions t) (s : State) : s.KeepsConditions t :=
  ⟨fun _ => h.linkSound reset_linkSound, fun _ => h.irqSound reset_irqSound,
   fun _ => h.configSound ⟨reset_bandsSound, reset_noSelfReference⟩⟩

end State.KeepsConditions

open State (KeepsConditions SameConditions)

/-! ## The receiver and its agents (R24, R25) -/

section Link

variable {s : State}

/-- A frame in progress and its end leave the receiver in service. -/
theorem withReception_linkSound {r : Reception} (q : Bool) (h : s.LinkSound) (hs : s.receiver.reception ≠ .off) (hr : r ≠ .off) :
    ((s.withQuiet q).withReception r).LinkSound :=
  ⟨iff_of_false (fun he => hs (h.1.mp he)) hr, h.2⟩

/-- An accepted frame from an enabled agent. -/
theorem goodFrame_linkSound (x : Frame) (h : s.LinkSound) : (goodFrame x s).LinkSound := by
  cases he : (s.agent x.agent).enabled with
  | false =>
    rw [goodFrame_disabled he]
    exact h
  | true =>
    obtain ⟨missed, notices, hgood⟩ := goodFrame_accepts he
    rw [hgood]
    refine ⟨h.1, fun a ha => ?_⟩
    by_cases hx : a = x.agent
    · subst hx
      rw [State.accepting_agent_same, he] at ha
      cases ha
    · rw [State.accepting_agent_other s missed notices hx] at ha ⊢
      exact h.2 a ha

/-- A complete frame. -/
theorem judgeFrame_linkSound (f : BitVec 32) (h : s.LinkSound) : (judgeFrame f s).LinkSound := by
  unfold judgeFrame
  split
  · exact h
  · split
    · exact goodFrame_linkSound _ h
    · exact h

/-- A good frame changes the agents and the paths, or counts in the receiver record. -/
theorem goodFrame_frame (x : Frame) (s : State) :
    goodFrame x s = { s with
      receiver := (goodFrame x s).receiver, agents := (goodFrame x s).agents, paths := (goodFrame x s).paths } := by
  cases he : (s.agent x.agent).enabled with
  | false =>
    rw [goodFrame_disabled he]
    exact rfl
  | true =>
    obtain ⟨missed, notices, hgood⟩ := goodFrame_accepts he
    rw [hgood]
    exact rfl

/-- A complete frame changes the receiver, the agents and the paths alone. -/
theorem judgeFrame_frame (f : BitVec 32) (s : State) :
    judgeFrame f s = { s with
      receiver := (judgeFrame f s).receiver, agents := (judgeFrame f s).agents, paths := (judgeFrame f s).paths } := by
  unfold judgeFrame
  split
  · exact rfl
  · split
    · exact goodFrame_frame _ s
    · exact rfl

/-- A rising edge of TCLK. -/
theorem takeBit_keeps (bit : Bool) (s : State) : s.KeepsConditions (takeBit bit s) := by
  have hquiet : s.KeepsConditions (s.withQuiet false) := .of_link rfl id
  cases hr : s.receiver.reception with
  | off =>
    rw [takeBit_ignored (.inl hr)]
    exact hquiet
  | sync =>
    rw [takeBit_ignored (.inr (.inl hr))]
    exact hquiet
  | wait =>
    have hin : s.receiver.reception ≠ .off := by simp [hr]
    cases bit with
    | true =>
      rw [takeBit_ignored (.inr (.inr ⟨hr, rfl⟩))]
      exact hquiet
    | false =>
      rw [takeBit_begins hr rfl]
      exact .of_link rfl fun h => withReception_linkSound _ h hin nofun
  | receiving count bits =>
    have hin : s.receiver.reception ≠ .off := by simp [hr]
    induction count using Fin.lastCases with
    | last =>
      rw [takeBit_completes hr]
      have hwait : s.KeepsConditions ((s.withQuiet false).withReception .wait) :=
        .of_link rfl fun h => withReception_linkSound _ h hin nofun
      exact hwait.trans (.of_link (judgeFrame_frame _ _) (judgeFrame_linkSound _))
    | cast n =>
      rw [takeBit_stores hr]
      exact .of_link rfl fun h => withReception_linkSound _ h hin nofun

/-- The expiry of the quiet measurement. -/
theorem expireQuiet_keeps (s : State) : s.KeepsConditions (expireQuiet s) := by
  have hquiet : s.KeepsConditions (s.withQuiet true) := .of_link rfl id
  cases hr : s.receiver.reception with
  | off =>
    rw [expireQuiet_idle (.inr hr)]
    exact hquiet
  | wait =>
    rw [expireQuiet_idle (.inl hr)]
    exact hquiet
  | sync =>
    rw [expireQuiet_sync hr]
    exact .of_link rfl fun h => withReception_linkSound _ h (by simp [hr]) nofun
  | receiving count bits =>
    rw [expireQuiet_receiving hr]
    exact .of_link rfl fun h => withReception_linkSound true h (by simp [hr]) nofun

/-- An agent record that is not enabled is SILENT (R25). -/
def Agent.Sound (r : Agent) : Prop := r.enabled = false → r.state = .silent

/-- A change of the agents and the paths alone that keeps each agent's record sound. -/
theorem agents_keep {t : State} (hframe : t = { s with agents := t.agents, paths := t.paths })
    (hagents : ∀ a : Fin 8, (s.agent a).Sound → (t.agent a).Sound) : s.KeepsConditions t := by
  have hreceiver : t.receiver = s.receiver := by rw [hframe]
  refine .of_link (by rw [hreceiver]; exact hframe) fun h => ⟨?_, fun a => hagents a (h.2 a)⟩
  rw [hreceiver]
  exact h.1

/-- A change of all agents that keeps each record sound. -/
theorem updateAgents_keeps {f : Agent → Agent} (hf : ∀ r : Agent, r.Sound → (f r).Sound) (s : State)
    (down told : Agent → Bool) : s.KeepsConditions (s.updateAgents agentIds f down told) :=
  agents_keep rfl fun a h => by
    rw [State.updateAgents_agentIds_agent]
    exact hf _ h

/-- A change of one agent, told of or not, to a sound record. -/
theorem updateAgent_keeps {a : Fin 8} {r : Agent} {down told : Bool} (hr : r.Sound) :
    s.KeepsConditions (s.updateAgent a r down told) :=
  agents_keep rfl fun b h => by
    rw [State.updateAgent_agent]
    split
    · exact hr
    · exact h

/-- A tick leaves the enabled field alone. -/
theorem Agent.aged_enabled (r : Agent) : r.aged.enabled = r.enabled := by
  unfold Agent.aged
  split
  · exact rfl
  · split <;> exact rfl

/-- A tick keeps an agent's record sound: a SILENT agent does not age. -/
theorem Agent.aged_sound {r : Agent} (h : r.Sound) : r.aged.Sound := by
  intro he
  rw [Agent.aged_enabled] at he
  have hsame : r.aged = r := by simp [Agent.aged, Agent.reachesLimit, Agent.ages, h he]
  rw [hsame]
  exact h he

/-- LINK RESTART leaves every agent SILENT. -/
theorem Agent.restarted_state (r : Agent) : r.restarted.state = .silent := by
  by_cases h : r.state = .silent
  · rw [Agent.restarted_silent h, h]
  · rw [Agent.restarted_of_ne h]

/-- A tick at the receiver. -/
theorem takeReceiverTick_keeps (s : State) : s.KeepsConditions (takeReceiverTick (popReceiverTick s)) := by
  have hpop : s.SameConditions (popReceiverTick s) := .of_records rfl rfl rfl rfl rfl
  rw [takeReceiverTick_eq]
  exact hpop.keeps.trans (updateAgents_keeps (fun _ => Agent.aged_sound) _ _ _)

/-- LINK RESTART. -/
theorem linkRestart_keeps (s : State) : s.KeepsConditions (linkRestart s).1 := by
  rw [linkRestart_eq]
  exact .accepted (updateAgents_keeps (fun r _ _ => r.restarted_state) s _ _)

/-- LINK CLEAR COUNTS. -/
theorem linkClearCounts_keeps (s : State) : s.KeepsConditions (linkClearCounts s).1 := by
  refine .of_link rfl fun h => ?_
  refine ⟨h.1, fun a => ?_⟩
  have hagent : (linkClearCounts s).1.agent a = { s.agent a with accepted := 0, missed := 0, timesLost := 0 } :=
    State.mapAgents_agent _ _ a
  rw [hagent]
  exact h.2 a

/-- A value that says yes or no is the code of that. -/
theorem yesNoOf_cases (v : Latch) : yesNoOf v = none ∨ ∃ b : Bool, v = bit48 b := by
  unfold yesNoOf
  split <;> rename_i h0
  · exact .inr ⟨false, h0⟩
  · split <;> rename_i h1
    · exact .inr ⟨true, h1⟩
    · exact .inl rfl

/-- A commit to the receiver record: OFF where it disables, another state where it enables. -/
theorem writeReceiver_keeps (f : ReceiverField) (v : Latch) (s : State) : s.KeepsConditions (writeReceiver f v s).1 := by
  by_cases hf : f = .enabled
  · subst hf
    obtain hv | ⟨b, hv⟩ := yesNoOf_cases v
    · simp only [writeReceiver, hv]
      exact .refl s
    · by_cases hb : b = s.receiver.enabled
      · rw [writeReceiver_same (hb ▸ hv)]
        exact .refl s
      · cases b with
        | true =>
          have he : s.receiver.enabled = false := by simpa using hb
          rw [writeReceiver_enables hv he]
          refine .of_link rfl fun h => ⟨iff_of_false Bool.noConfusion ?_, h.2⟩
          dsimp only
          split <;> exact nofun
        | false =>
          have he : s.receiver.enabled = true := by simpa using hb
          rw [writeReceiver_disables hv he]
          exact .of_link rfl fun h => ⟨iff_of_true rfl rfl, h.2⟩
  · rw [writeReceiver_readonly hf]
    exact .refl s

/-- A commit to a silence limit. -/
theorem writeSilenceLimit_keeps (a : Fin 8) (v : Latch) (s : State) : s.KeepsConditions (writeSilenceLimit a v s).1 := by
  unfold writeSilenceLimit
  split
  · exact .refl s
  · refine .accepted (agents_keep rfl fun b h => ?_)
    rw [State.modifyAgent_agent]
    split <;> rename_i hb
    · exact hb ▸ h
    · exact h

/-- A commit to an agent's enabled field: SILENT where it disables. -/
theorem writeAgentEnabled_keeps (a : Fin 8) (v : Latch) (s : State) : s.KeepsConditions (writeAgentEnabled a v s).1 := by
  obtain hv | ⟨b, hv⟩ := yesNoOf_cases v
  · simp only [writeAgentEnabled, hv]
    exact .refl s
  · by_cases hb : b = (s.agent a).enabled
    · rw [writeAgentEnabled_same a (hb ▸ hv)]
      exact .refl s
    · cases b with
      | true =>
        have he : (s.agent a).enabled = false := by simpa using hb
        rw [writeAgentEnabled_enables a hv he]
        refine .accepted (agents_keep rfl fun b h => ?_)
        rw [State.modifyAgent_agent]
        split
        · exact nofun
        · exact h
      | false =>
        have he : (s.agent a).enabled = true := by simpa using hb
        rw [writeAgentEnabled_disables a hv he]
        exact .accepted (updateAgent_keeps fun _ => rfl)

end Link

/-! ## The Event Controller (R157) -/

/-- IRQn judged is as R157 says. -/
theorem EventController.judge_irq (e : EventController) : e.judge.irq = e.judge.wantsIrq := rfl

/-- A further error counted leaves the flags and the enables alone. -/
theorem EventController.setRecord_detected {e : EventController} {c : ErrorClass} {first : FirstError}
    {n : BitVec 8} (h : e.classRecord c = .detected first n) (m : BitVec 8) :
    (e.setRecord c (.detected first m)).wantsIrq = e.wantsIrq := by
  cases c <;>
    simp only [EventController.classRecord] at h <;>
    simp [EventController.wantsIrq, EventController.flags, EventController.setRecord, h, ClassRecord.isDetected]

/-- A report leaves IRQn as R157 says. -/
theorem EventController.takeError_irq {e : EventController} (h : e.irq = e.wantsIrq) (kind : ErrorKind)
    (subject : Option (Fin 8)) (epoch : Epoch) :
    (e.takeError kind subject epoch).irq = (e.takeError kind subject epoch).wantsIrq := by
  unfold takeError
  split <;> rename_i hc
  · exact judge_irq _
  · rw [setRecord_detected hc, ← h]
    cases kind.errorClass <;> exact rfl

/-- A status event leaves IRQn as R157 says. -/
theorem EventController.takeStatus_irq {e : EventController} (h : e.irq = e.wantsIrq) (f : StatusFlag) :
    (e.takeStatus f).irq = (e.takeStatus f).wantsIrq := by
  unfold takeStatus
  split
  · exact h
  · exact judge_irq _

/-- A message taken off a path into the Event Controller. -/
theorem frontNotice_same {r : Reporter} {s t : State} {m : Notice} (h : frontNotice r s = some (m, t)) :
    s.SameConditions t := by
  cases r <;>
  · simp only [frontNotice] at h
    split at h
    · cases h
    · cases h
      exact .of_records rfl rfl rfl rfl rfl

/-! ## Configuration (R44, R52, R80) -/

/-- A change of one counter that leaves it a band and a source of R44 and R52. -/
theorem modifyCounter_keeps {k : Fin 32} {f : Counter → Counter} {s : State}
    (hband : (s.counter k).bandLow ≤ (s.counter k).bandHigh →
      (f (s.counter k)).bandLow ≤ (f (s.counter k)).bandHigh)
    (hsource : (s.counter k).source ≠ .overflow k → (f (s.counter k)).source ≠ .overflow k) :
    s.KeepsConditions (s.modifyCounter k f) := by
  refine .of_engine rfl fun ⟨hbands, hsources, hchains⟩ => ⟨fun j => ?_, fun j => ?_, hchains⟩ <;>
    rw [State.modifyCounter_counter] <;> split <;> rename_i hj
  · exact hband (hbands k)
  · exact hbands j
  · exact hj ▸ hsource (hsources k)
  · exact hsources j

/-- A configuration write leaves the state, or changes its counter by a value that the field takes. -/
theorem configWrite_cases {α : Type} (k : Fin 32) (v : Option α) (f : α → Counter → Counter) (s : State) :
    (configWrite k v f s).1 = s ∨
      ∃ x, v = some x ∧ (configWrite k v f s).1 = s.modifyCounter k fun _ => { f x (s.counter k) with inside := false } := by
  by_cases hi : s.groupIdle (s.counter k).group = true
  · cases v with
    | none => exact .inl (congrArg Prod.fst (configWrite_range hi rfl))
    | some x => exact .inr ⟨x, rfl, congrArg Prod.fst (configWrite_takes hi rfl)⟩
  · exact .inl (congrArg Prod.fst (configWrite_locked v hi))

/-- A configuration write whose values all leave a band and a source of R44 and R52. -/
theorem configWrite_keeps {α : Type} {k : Fin 32} {v : Option α} {f : α → Counter → Counter} {s : State}
    (hband : ∀ x, v = some x → (s.counter k).bandLow ≤ (s.counter k).bandHigh →
      (f x (s.counter k)).bandLow ≤ (f x (s.counter k)).bandHigh)
    (hsource : ∀ x, v = some x → (s.counter k).source ≠ .overflow k → (f x (s.counter k)).source ≠ .overflow k) :
    s.KeepsConditions (configWrite k v f s).1 := by
  obtain h | ⟨x, hv, h⟩ := configWrite_cases k v f s
  · rw [h]
    exact .refl s
  · rw [h]
    exact modifyCounter_keeps (hband x hv) (hsource x hv)

/-- A source that a counter takes is not its own overflow (R52). -/
theorem sourceFor_ne {k : Fin 32} {v : Latch} {src : Source} (h : sourceFor k v = some src) : src ≠ .overflow k :=
  of_decide_eq_true (Option.filter_eq_some_iff.mp h).2

/-- A band low that a counter takes is not above its band high (R44). -/
theorem bandLowFor_le {c : Counter} {v : Latch} {x : BitVec 12} (h : bandLowFor c v = some x) : x ≤ c.bandHigh :=
  of_decide_eq_true (Option.filter_eq_some_iff.mp h).2

/-- A band high that a counter takes is not below its band low (R44). -/
theorem bandHighFor_le {c : Counter} {v : Latch} {x : BitVec 12} (h : bandHighFor c v = some x) : c.bandLow ≤ x :=
  of_decide_eq_true (Option.filter_eq_some_iff.mp h).2

/-- A chain next that a group takes is not the group itself (R80). -/
theorem chainNextFor_ne {g : Fin 8} {v : Latch} {n : Option (Fin 8)} (h : chainNextFor g v = some n) : n ≠ some g :=
  of_decide_eq_true (Option.filter_eq_some_iff.mp h).2

/-- A commit to a configuration field of a counter. -/
theorem writeCounter_keeps (k : Fin 32) (f : CounterField) (v : Latch) (s : State) :
    s.KeepsConditions (writeCounter k f v s).1 := by
  cases f with
  | enabled | mode | overflowCapture => exact configWrite_keeps (fun _ _ => id) fun _ _ => id
  | source => exact configWrite_keeps (fun _ _ => id) fun _ hx _ => sourceFor_ne hx
  | bandLow => exact configWrite_keeps (fun _ hx _ => bandLowFor_le hx) fun _ _ => id
  | bandHigh => exact configWrite_keeps (fun _ hx _ => bandHighFor_le hx) fun _ _ => id
  | group | value | preset | inside | wrapped | stale => exact .refl s

/-- A commit to a field of a group. -/
theorem writeGroup_keeps (g : Fin 8) (f : GroupField) (v : Latch) (s : State) : s.KeepsConditions (writeGroup g f v s).1 := by
  have hconfig {α : Type} {v : Option α} {f : α → Group → Group}
      (hf : ∀ x, v = some x → (s.group g).chainNext ≠ some g → (f x (s.group g)).chainNext ≠ some g) :
      s.KeepsConditions (groupConfigWrite g v f s).1 := by
    unfold groupConfigWrite orRange
    split
    · split
      · exact .refl s
      · refine .accepted (.of_engine rfl fun ⟨hbands, hsources, hchains⟩ => ⟨hbands, hsources, fun h => ?_⟩)
        rw [State.modifyGroup_group]
        split <;> rename_i hg
        · exact hg ▸ hf _ rfl (hchains g)
        · exact hchains h
    · exact .refl s
  cases f with
  | policy | holdAfter | reloadAfter | period => exact hconfig fun _ _ => id
  | chainNext => exact hconfig fun _ hx _ => chainNextFor_ne hx
  | _ => exact .refl s

end Sys2Proof.Machine
end

section
/-! Every command keeps the conditions of the receiver, of IRQn and of the configuration, and so does every step (R24, R25, R44,
R52, R80, R157). -/

namespace Sys2Proof.Machine

open State (KeepsConditions SameConditions)

/-- Where the answer is a next state, that state keeps the conditions of `s`. -/
def State.KeepsBy (s : State) (o : Answered) : Prop := ∀ t : State, o = .next t → s.KeepsConditions t

/-! ## The shared forms of a row -/

section Forms

variable {s : State}

/-- A next state that keeps the conditions. -/
theorem keepsBy_next {t : State} (h : s.KeepsConditions t) : s.KeepsBy (.next t) := by
  rintro u hu
  cases hu
  exact h

/-- An event whose effect keeps the conditions. -/
theorem keepsBy_event {f : State → State} (h : s.KeepsConditions (f s)) : s.KeepsBy (event s f) := by
  intro t ht
  obtain ⟨-, rfl⟩ | ⟨-, rfl⟩ := event_cases ht
  · exact h
  · exact .refl _

/-- A host access whose effect keeps the conditions. -/
theorem keepsBy_hostAccess {c : CyclePhase} {acc : Access} {mine : State → Bool} {effect : State → State}
    (h : ∀ u : State, u.KeepsConditions (effect u)) : s.KeepsBy (hostAccess c acc mine effect s) := by
  intro t ht
  obtain ⟨b, rfl⟩ | ⟨-, -, b, b', rfl⟩ := hostAccess_cases ht
  · exact (withBus_same s b).keeps
  · exact (withBus_same s b).keeps.trans ((h _).trans (withBus_same _ b').keeps)

/-- An owner's answer latched keeps what the owner keeps. -/
theorem latchResult_keeps {owner : State → State × ResultCode} (h : ∀ u : State, u.KeepsConditions (owner u).1) (u : State) :
    u.KeepsConditions (latchResult (owner u)) := (h u).trans (withResult_same _ _).keeps

/-- A command whose owner keeps the conditions. -/
theorem keepsBy_command {c : CyclePhase} {code op : BitVec 8} {owner : State → State × ResultCode}
    (h : ∀ u : State, u.KeepsConditions (owner u).1) : s.KeepsBy (command c code op owner s) :=
  keepsBy_hostAccess (latchResult_keeps h)

/-- A group command whose owner keeps the conditions. -/
theorem keepsBy_groupCommand {c : CyclePhase} {code : BitVec 8} {g : Fin 8} {owner : Fin 8 → State → State × ResultCode}
    (h : ∀ u : State, u.KeepsConditions (owner g u).1) : s.KeepsBy (groupCommand c code g owner s) :=
  keepsBy_hostAccess (latchResult_keeps h)

/-- A commit whose owner, whichever field is selected, keeps the conditions. -/
theorem keepsBy_tableWrite {c : CyclePhase} {w : Word} {owners : Option Selection → Option (Latch → State → State × ResultCode)}
    (h : ∀ sel f, owners sel = some f → ∀ (v : Latch) (u : State), u.KeepsConditions (f v u).1) :
    s.KeepsBy (tableWrite c w owners s) := by
  refine keepsBy_hostAccess fun u => ?_
  unfold commitTo
  split <;> rename_i hf
  · have hcommit : u.SameConditions (u.beforeCommit w) := .of_records rfl rfl rfl rfl rfl
    exact hcommit.keeps.trans (latchResult_keeps (fun x => h _ _ hf _ x) _)
  · exact .refl u

/-- The paths are not looked at. -/
theorem paths_same (s : State) (p : Paths) : s.SameConditions { s with paths := p } := .of_records rfl rfl rfl rfl rfl

/-- A message taken off a path and a change of what is not looked at. -/
theorem paths_keeps {p : Paths} {f : State → State} (h : ∀ u : State, u.SameConditions (f u)) :
    s.KeepsConditions (f { s with paths := p }) :=
  ((paths_same s p).trans (h _)).keeps

/-- The arrival of an answer whose effect keeps what the conditions look at. -/
theorem keepsBy_answerArrives {kind : AnswerKind} {f : Fin 8 → State → State}
    (h : ∀ (g : Fin 8) (u : State), u.SameConditions (f g u)) : s.KeepsBy (answerArrives kind f s) := by
  intro t ht
  obtain rfl | ⟨-, g, rest, -, rfl⟩ := answerArrives_cases ht
  · exact .refl _
  · exact paths_keeps (h g)

end Forms

/-! ## Rows that look at the front of a path, at the mode or at the state -/

section Arrivals

variable (s : State)

/-- INTERVAL_EXPIRY. -/
theorem execIntervalExpiry_keeps : s.KeepsBy (execIntervalExpiry s) := by
  have hexpire : s.SameConditions (expireInterval s) := .of_records rfl rfl rfl rfl rfl
  unfold execIntervalExpiry
  split
  · exact keepsBy_next (.refl s)
  · exact keepsBy_event hexpire.keeps

/-- FRAME_COMPLETE. -/
theorem execFrameComplete_keeps (bit : Bool) : s.KeepsBy (execFrameComplete bit s) := by
  unfold execFrameComplete
  split
  · exact keepsBy_event (takeBit_keeps bit s)
  · exact keepsBy_next (.refl s)

/-- RECEIVER_TICK. -/
theorem execReceiverTick_keeps : s.KeepsBy (execReceiverTick s) := by
  unfold execReceiverTick
  split
  · exact keepsBy_next (.refl s)
  · exact keepsBy_event (takeReceiverTick_keeps s)

/-- AGENT_LOST. -/
theorem execAgentLost_keeps (a : Fin 8) : s.KeepsBy (execAgentLost a s) := by
  unfold execAgentLost
  split
  · exact keepsBy_event (takeReceiverTick_keeps s)
  · exact keepsBy_next (.refl s)

/-- A message of the Line Inputs or the Tally Receiver taken off its path. -/
theorem frontSource_same {path : SourcePath} {t : State} {src : Source} {a : Amount}
    (h : frontSource path s = some (src, a, t)) : s.SameConditions t := by
  cases path <;>
  · simp only [frontSource] at h
    split at h <;> cases h
    exact paths_same s _

/-- SOURCE_EVENT. -/
theorem execSourceEvent_keeps (path : SourcePath) : s.KeepsBy (execSourceEvent path s) := by
  unfold execSourceEvent
  split <;> rename_i hf
  · exact keepsBy_next (.refl s)
  · exact keepsBy_event ((frontSource_same s hf).trans (applySource_same _ _ _)).keeps

/-- ENGINE_TICK. -/
theorem execEngineTick_keeps : s.KeepsBy (execEngineTick s) := by
  unfold execEngineTick
  split
  · exact keepsBy_next (.refl s)
  · exact keepsBy_event (paths_keeps takeEngineTick_same)

/-- PERIODIC_CAUSE. -/
theorem execPeriodicCause_keeps (g : Fin 8) : s.KeepsBy (execPeriodicCause g s) := by
  unfold execPeriodicCause
  split
  · exact keepsBy_event (paths_keeps takeEngineTick_same)
  · exact keepsBy_next (.refl s)

/-- OVERFLOW_EVENT. -/
theorem execOverflowEvent_keeps : s.KeepsBy (execOverflowEvent s) := by
  unfold execOverflowEvent
  split
  · exact keepsBy_next (.refl s)
  · exact keepsBy_event (paths_keeps (applySource_same _ _))

/-- PLACED_EVENT. -/
theorem execPlacedEvent_keeps : s.KeepsBy (execPlacedEvent s) := by
  unfold execPlacedEvent
  split
  · exact keepsBy_next (.refl s)
  · exact keepsBy_event (paths_keeps (applySource_same _ _))

/-- AGENT_DOWN. -/
theorem execAgentDown_keeps : s.KeepsBy (execAgentDown s) := by
  unfold execAgentDown
  split
  · exact keepsBy_event (paths_keeps (markStale_same _))
  · exact keepsBy_next (.refl s)

/-- CHAIN_REQUEST. -/
theorem execChainRequest_keeps : s.KeepsBy (execChainRequest s) := by
  unfold execChainRequest
  split
  · exact keepsBy_next (.refl s)
  · exact keepsBy_event (paths_keeps (takeChainRequest_same _))

/-- DRAFT. -/
theorem execDraft_keeps : s.KeepsBy (execDraft s) := by
  unfold execDraft
  split
  · exact keepsBy_event (paths_keeps (takeDraft_same _))
  · exact keepsBy_next (.refl s)

/-- WITHDRAW. -/
theorem execWithdraw_keeps : s.KeepsBy (execWithdraw s) := by
  unfold execWithdraw
  split
  · exact keepsBy_event (paths_keeps (takeWithdraw_same _))
  · exact keepsBy_next (.refl s)

/-- ERROR_REPORT. -/
theorem execErrorReport_keeps (r : Reporter) : s.KeepsBy (execErrorReport r s) := by
  unfold execErrorReport
  split <;> rename_i hf
  · exact keepsBy_event ((frontNotice_same hf).keeps.trans
      (.of_events rfl fun h => EventController.takeError_irq h _ _ _))
  · exact keepsBy_next (.refl s)

/-- STATUS_EVENT. -/
theorem execStatusEvent_keeps (r : Reporter) : s.KeepsBy (execStatusEvent r s) := by
  unfold execStatusEvent
  split <;> rename_i hf
  · exact keepsBy_event ((frontNotice_same hf).keeps.trans (.of_events rfl fun h => EventController.takeStatus_irq h _))
  · exact keepsBy_next (.refl s)

/-- BUS_CYCLE_END. -/
theorem execBusCycleEnd_keeps (csHigh : Bool) : s.KeepsBy (execBusCycleEnd csHigh s) := by
  unfold execBusCycleEnd
  split
  · exact keepsBy_next (.refl s)
  · exact keepsBy_next (withBus_same s _).keeps
  · exact keepsBy_next (withBus_same s _).keeps

/-- Every block at its reset values. -/
theorem resetBlocks_same : State.reset.SameConditions (resetBlocks s) := .of_records rfl rfl rfl rfl rfl

/-- The part held in reset. -/
theorem holdInReset_keeps : s.KeepsConditions (holdInReset s) := by
  have hreset : State.reset.SameConditions (holdInReset s) := .of_records rfl rfl rfl rfl rfl
  exact .of_reset hreset s

/-- The first levels of the lines are not looked at. -/
theorem firstLevels_same (levels : Word) : s.SameConditions (s.firstLevels levels) :=
  .of_records (s.firstLevels_receiver levels) (s.firstLevels_agents levels) (s.firstLevels_events levels)
    (s.firstLevels_counters levels) (s.firstLevels_groups levels)

/-- DEVICE RESET. -/
theorem deviceReset_keeps (levels : Word) : s.KeepsConditions (deviceReset levels s) :=
  .of_reset ((resetBlocks_same s).trans (firstLevels_same _ levels)) s

/-- The end of recovery. -/
theorem endRecovery_same (levels : Word) : s.SameConditions (endRecovery levels s) := by
  have hruns : s.SameConditions { s with mode := .running, bus := s.bus.passOn } := .of_records rfl rfl rfl rfl rfl
  exact hruns.trans (firstLevels_same _ levels)

/-- RESET_RECOVERY_END. -/
theorem execResetRecoveryEnd_keeps (c : RecoveryPhase) : s.KeepsBy (execResetRecoveryEnd c s) := by
  have hbegin : s.SameConditions (beginRecovery s) := .of_records rfl rfl rfl rfl rfl
  unfold execResetRecoveryEnd
  split
  · exact keepsBy_next hbegin.keeps
  · exact keepsBy_next (endRecovery_same s _).keeps
  · exact keepsBy_next (.refl s)

/-- BOTH_STROBES_LOW. -/
theorem execBothStrobesLow_keeps : s.KeepsBy (execBothStrobesLow s) := by
  unfold execBothStrobesLow
  exact keepsBy_event (withBus_same s _).keeps

/-- HELD_CYCLE_PASSED_ON. -/
theorem execHeldCyclePassedOn_keeps : s.KeepsBy (execHeldCyclePassedOn s) := by
  unfold execHeldCyclePassedOn
  exact keepsBy_event (withBus_same s _).keeps

end Arrivals

/-! ## Writes and reads of the host -/

section Accesses

variable (c : CyclePhase) (w : Word) (s : State)

/-- An owner that refuses every value. -/
theorem refuse_keeps (r : ResultCode) (s : State) : s.KeepsConditions (refuse r s).1 := .refl s

/-- PERIOD_CODE_WRITE. -/
theorem execPeriodCodeWrite_keeps : s.KeepsBy (execPeriodCodeWrite c w s) :=
  keepsBy_tableWrite fun _ f hf => by
    split at hf <;> cases hf
    exact fun v u => (writePeriodCode_same v u).keeps

/-- EPOCH_WRITE. -/
theorem execEpochWrite_keeps : s.KeepsBy (execEpochWrite c w s) :=
  keepsBy_tableWrite fun _ f hf => by
    split at hf <;> cases hf
    exact fun v u => (writeEpoch_same v u).keeps

/-- LINE_FIELD_WRITE. -/
theorem execLineFieldWrite_keeps : s.KeepsBy (execLineFieldWrite c w s) :=
  keepsBy_tableWrite fun _ f hf => by
    split at hf <;> cases hf
    exact fun v u => (writeLine_same _ _ v u).keeps

/-- RECEIVER_ENABLED_WRITE. -/
theorem execReceiverEnabledWrite_keeps : s.KeepsBy (execReceiverEnabledWrite c w s) :=
  keepsBy_tableWrite fun _ f hf => by
    split at hf <;> cases hf
    exact writeReceiver_keeps _

/-- AGENT_ENABLED_WRITE. -/
theorem execAgentEnabledWrite_keeps : s.KeepsBy (execAgentEnabledWrite c w s) :=
  keepsBy_tableWrite fun _ f hf => by
    split at hf <;> cases hf
    exact writeAgentEnabled_keeps _

/-- SILENCE_LIMIT_WRITE. -/
theorem execSilenceLimitWrite_keeps : s.KeepsBy (execSilenceLimitWrite c w s) :=
  keepsBy_tableWrite fun _ f hf => by
    split at hf <;> cases hf
    exact writeSilenceLimit_keeps _

/-- COUNTER_FIELD_WRITE. -/
theorem execCounterFieldWrite_keeps : s.KeepsBy (execCounterFieldWrite c w s) :=
  keepsBy_tableWrite fun _ f hf => by
    split at hf
    · split at hf <;> cases hf
      exact writeCounter_keeps _ _
    · cases hf

/-- COUNTER_GROUP_WRITE. -/
theorem execCounterGroupWrite_keeps : s.KeepsBy (execCounterGroupWrite c w s) :=
  keepsBy_tableWrite fun _ f hf => by
    split at hf <;> cases hf
    exact fun v u => (writeMembership_same _ v u).keeps

/-- VALUE_PRESET_WRITE. -/
theorem execValuePresetWrite_keeps : s.KeepsBy (execValuePresetWrite c w s) :=
  keepsBy_tableWrite fun _ f hf => by
    split at hf <;> cases hf
    · exact fun v u => SameConditions.keeps (writeContents_same v u fun _ _ => rfl)
    · exact fun v u => SameConditions.keeps (writeContents_same v u fun _ _ => rfl)

/-- GROUP_FIELD_WRITE. -/
theorem execGroupFieldWrite_keeps : s.KeepsBy (execGroupFieldWrite c w s) :=
  keepsBy_tableWrite fun _ f hf => by
    split at hf <;> cases hf
    exact writeGroup_keeps _ _

/-- READ_ONLY_TABLE_WRITE. -/
theorem execReadOnlyTableWrite_keeps : s.KeepsBy (execReadOnlyTableWrite c w s) :=
  keepsBy_tableWrite fun _ f hf => by
    split at hf <;> cases hf <;> exact fun _ => refuse_keeps _

/-- TABLE_COMMIT_RANGE. -/
theorem execTableCommitRange_keeps : s.KeepsBy (execTableCommitRange c w s) :=
  keepsBy_tableWrite fun _ f hf => by
    split at hf <;> cases hf
    exact fun _ => refuse_keeps _

/-- READONLY_FIELD_WRITE. -/
theorem execReadonlyFieldWrite_keeps : s.KeepsBy (execReadonlyFieldWrite c w s) :=
  keepsBy_tableWrite fun _ f hf => by
    split at hf
    · split at hf <;> cases hf
      exact fun _ => refuse_keeps _
    · cases hf
      exact fun _ => refuse_keeps _
    · cases hf

/-- WATERMARK_WRITE. -/
theorem execWatermarkWrite_keeps : s.KeepsBy (execWatermarkWrite c w s) := by
  unfold execWatermarkWrite
  exact keepsBy_hostAccess (latchResult_keeps fun u => (writeWatermark_same w u).keeps)

/-- IRQSTAT_WRITE. -/
theorem execIrqstatWrite_keeps : s.KeepsBy (execIrqstatWrite c w s) := by
  unfold execIrqstatWrite
  exact keepsBy_hostAccess fun u => .of_events rfl fun _ => EventController.judge_irq _

/-- IRQEN_WRITE. -/
theorem execIrqenWrite_keeps : s.KeepsBy (execIrqenWrite c w s) := by
  unfold execIrqenWrite
  exact keepsBy_hostAccess fun u => .of_events rfl fun _ => EventController.judge_irq _

/-- TABLE_FETCH. -/
theorem execTableFetch_keeps (offset : BitVec 6) : s.KeepsBy (execTableFetch c offset s) := by
  unfold execTableFetch
  exact keepsBy_hostAccess fun u => (readWindow_same offset u).keeps

/-- REGISTER_WRITE. -/
theorem execRegisterWrite_keeps (offset : BitVec 6) : s.KeepsBy (execRegisterWrite c offset w s) := by
  unfold execRegisterWrite
  exact keepsBy_hostAccess fun u => SameConditions.keeps (.of_records rfl rfl rfl rfl rfl)

/-- UNKNOWN_COMMAND. -/
theorem execUnknownCommand_keeps : s.KeepsBy (execUnknownCommand c w s) := by
  unfold execUnknownCommand
  exact keepsBy_hostAccess fun u => (withResult_same u _).keeps

/-- GROUP_OPERAND_RANGE. -/
theorem execGroupOperandRange_keeps : s.KeepsBy (execGroupOperandRange c w s) := by
  unfold execGroupOperandRange
  exact keepsBy_hostAccess fun u => (withResult_same u _).keeps

/-- DEVICE_RESET. -/
theorem execDeviceReset_keeps (op : BitVec 8) (levels : Word) : s.KeepsBy (execDeviceReset c op levels s) := by
  unfold execDeviceReset
  exact keepsBy_hostAccess fun u => deviceReset_keeps u levels

end Accesses

/-! ## Every command -/

/-- Every command keeps the conditions. -/
theorem exec_keeps (i : Instr) (s : State) : s.KeepsBy (exec i s) := by
  cases i with
  | intervalExpiry => exact execIntervalExpiry_keeps s
  | timebaseStart c op => exact keepsBy_command fun u => (timebaseStart_same u).keeps
  | timebaseStop c op => exact keepsBy_command fun u => (timebaseStop_same u).keeps
  | periodCodeWrite c w => exact execPeriodCodeWrite_keeps c w s
  | epochWrite c w => exact execEpochWrite_keeps c w s
  | lineChange n => exact keepsBy_event (changeLine_same n s).keeps
  | lineFieldWrite c w => exact execLineFieldWrite_keeps c w s
  | frameComplete bit => exact execFrameComplete_keeps s bit
  | quietTimeExpiry => exact keepsBy_event (expireQuiet_keeps s)
  | receiverTick => exact execReceiverTick_keeps s
  | agentLost a => exact execAgentLost_keeps s a
  | receiverEnabledWrite c w => exact execReceiverEnabledWrite_keeps c w s
  | agentEnabledWrite c w => exact execAgentEnabledWrite_keeps c w s
  | silenceLimitWrite c w => exact execSilenceLimitWrite_keeps c w s
  | linkRestart c op => exact keepsBy_command linkRestart_keeps
  | linkClearCounts c op => exact keepsBy_command linkClearCounts_keeps
  | sourceEvent path => exact execSourceEvent_keeps s path
  | engineTick => exact execEngineTick_keeps s
  | periodicCause g => exact execPeriodicCause_keeps s g
  | overflowEvent => exact execOverflowEvent_keeps s
  | placedEvent => exact execPlacedEvent_keeps s
  | agentDown => exact execAgentDown_keeps s
  | groupStart c g => exact keepsBy_groupCommand fun u => (groupStart_same g u).keeps
  | groupHold c g => exact keepsBy_groupCommand fun u => (groupHold_same g u).keeps
  | groupResume c g => exact keepsBy_groupCommand fun u => (groupResume_same g u).keeps
  | groupStop c g => exact keepsBy_groupCommand fun u => (groupStop_same g u).keeps
  | groupCapture c g => exact keepsBy_groupCommand fun u => (groupCapture_same g u).keeps
  | groupClear c g => exact keepsBy_groupCommand fun u => (groupClear_same g u).keeps
  | groupReload c g => exact keepsBy_groupCommand fun u => (groupReload_same g u).keeps
  | countingReset c op => exact keepsBy_command fun u => (countingReset_same u).keeps
  | chainRequest => exact execChainRequest_keeps s
  | answerTaken => exact keepsBy_answerArrives fun g u => .comp (sendPlacement_same _ g) (clearOutstanding_same g u)
  | answerWaiting => exact keepsBy_answerArrives fun g u => .modifyGroup g u Group.stall_chainNext
  | answerRefused => exact keepsBy_answerArrives clearOutstanding_same
  | answerPlaced =>
    exact keepsBy_answerArrives fun g u => .comp (sendPlacement_same _ g)
      (.comp (.modifyGroup g _ Group.unstall_chainNext) (clearOutstanding_same g u))
  | answerAbandoned => exact keepsBy_answerArrives clearOutstanding_same
  | counterFieldWrite c w => exact execCounterFieldWrite_keeps c w s
  | counterGroupWrite c w => exact execCounterGroupWrite_keeps c w s
  | valuePresetWrite c w => exact execValuePresetWrite_keeps c w s
  | groupFieldWrite c w => exact execGroupFieldWrite_keeps c w s
  | draft => exact execDraft_keeps s
  | withdraw => exact execWithdraw_keeps s
  | queueRelease c op => exact keepsBy_command fun u => (queueRelease_same u).keeps
  | queueFlush c op => exact keepsBy_command fun u => (queueFlush_same u).keeps
  | watermarkWrite c w => exact execWatermarkWrite_keeps c w s
  | errorReport r => exact execErrorReport_keeps s r
  | statusEvent r => exact execStatusEvent_keeps s r
  | irqstatWrite c w => exact execIrqstatWrite_keeps c w s
  | irqenWrite c w => exact execIrqenWrite_keeps c w s
  | tableFetch c offset => exact execTableFetch_keeps c s offset
  | readOnlyTableWrite c w => exact execReadOnlyTableWrite_keeps c w s
  | unknownCommand c w => exact execUnknownCommand_keeps c w s
  | registerWrite c offset w => exact execRegisterWrite_keeps c w s offset
  | bothStrobesLow => exact execBothStrobesLow_keeps s
  | busCycleEnd csHigh => exact execBusCycleEnd_keeps s csHigh
  | heldCyclePassedOn => exact execHeldCyclePassedOn_keeps s
  | deviceReset c op levels => exact execDeviceReset_keeps c s op levels
  | resetnAsserted => exact keepsBy_next (holdInReset_keeps s)
  | resetRecoveryEnd c => exact execResetRecoveryEnd_keeps s c
  | powerUp => exact keepsBy_next (holdInReset_keeps s)
  | tclkRisingEdge bit => exact keepsBy_event (takeBit_keeps bit s)
  | tableCommitRange c w => exact execTableCommitRange_keeps c w s
  | groupOperandRange c w => exact execGroupOperandRange_keeps c w s
  | readonlyFieldWrite c w => exact execReadonlyFieldWrite_keeps c w s

/-- What a step can do: nothing, or the front command on the state with the rest of the queue. -/
theorem step_cases {s t : State} (h : step s = .next t) :
    t = s ∨ ∃ c rest, s.pending = c :: rest ∧ exec c { s with pending := rest } = .next t := by
  unfold step at h
  split at h <;> rename_i hp
  · cases h
    exact .inl rfl
  · exact .inr ⟨_, _, hp, h⟩

/-- Every step keeps the conditions. -/
theorem step_keeps {s t : State} (h : step s = .next t) : s.KeepsConditions t := by
  obtain rfl | ⟨c, rest, -, h⟩ := step_cases h
  · exact .refl _
  · have hqueue : s.SameConditions { s with pending := rest } := .of_records rfl rfl rfl rfl rfl
    exact hqueue.keeps.trans (exec_keeps c _ t h)

/-- Settles O58, by the three conditions that every step keeps. -/
theorem blockConditionsAreKept : Obligations.BlockConditionsAreKept :=
  ⟨fun _ _ hs h => (step_keeps h).link hs, fun _ _ hs h => (step_keeps h).irq hs, fun _ _ hs h => (step_keeps h).config hs⟩

end Sys2Proof.Machine
end

section
/-! One group's view of the draft protocol, what one command or message can do to it, and that the protocol holds of every
view that such a change leaves (R65, R74, R100 to R106, R131, R145). -/

namespace Sys2Proof.Machine

/-! ## What a group sees of the protocol -/

/-- What the draft protocol looks at for one group: its state, whether its draft is outstanding, what it has on the draft path
(yes for a DRAFT, no for a WITHDRAW), the number of its drafts that wait, and the answers on their way to it. -/
structure DraftView where
  state : GroupState
  outstanding : Bool
  path : List Bool
  waiting : Nat
  answers : List AnswerKind

/-- What a message on the draft path is for group Gg: yes for its DRAFT, no for its WITHDRAW, none for another group's. -/
def DraftMessage.seenBy (g : Fin 8) : DraftMessage → Option Bool
  | .draft d => if d.group = g then some true else none
  | .withdraw x => if x = g then some false else none

/-- Group Gg's view of a draft path, a wait list and an answer path. -/
def viewOf (g : Fin 8) (x : Group) (ms : List DraftMessage) (ds : List Draft) (as : List Answer) : DraftView where
  state := x.state
  outstanding := x.outstanding
  path := ms.filterMap (DraftMessage.seenBy g)
  waiting := ds.countP fun d => decide (d.group = g)
  answers := (as.filter fun a => decide (a.group = g)).map (·.kind)

/-- Group Gg's view of the protocol. -/
def State.draftView (s : State) (g : Fin 8) : DraftView :=
  viewOf g (s.group g) s.paths.draftPath s.queue.waitList s.paths.answers

/-- The protocol of one group, by its view. -/
structure DraftView.Sound (v : DraftView) : Prop where
  accounted : v.path.count true + v.waiting + v.answers.countP (·.isFinal) = if v.outstanding then 1 else 0
  inOrder : v.answers ∈ [[], [.taken], [.refused], [.placed], [.abandoned], [.waiting], [.waiting, .placed],
    [.waiting, .abandoned]]
  waitingTaken : AnswerKind.waiting ∈ v.answers → v.outstanding = true ∧ v.path.count true = 0
  stalledWaits : v.state.isStalled = true →
    v.outstanding = true ∧ v.path.count true = 0 ∧ (v.answers = [] ∨ v.answers = [.placed])
  abandonedIdle : AnswerKind.abandoned ∈ v.answers → v.state = .idle
  withdrawAhead : v.state ≠ .idle → v.outstanding = true →
    false ∉ v.path.dropWhile (· == false) ∧ (v.path.count true = 0 → v.path = [])
  liveHeard : v.state.isLive = true → v.waiting ≠ 0 ∨ AnswerKind.placed ∈ v.answers → AnswerKind.waiting ∈ v.answers

/-- The DRAFTs a group has on the path are the drafts sent for it. -/
theorem count_seenBy (g : Fin 8) : ∀ ms : List DraftMessage,
    (ms.filterMap (DraftMessage.seenBy g)).count true = (draftsOnPath ms).countP fun d => decide (d.group = g)
  | [] => rfl
  | .draft d :: ms => by
    have ih := count_seenBy g ms
    by_cases h : d.group = g <;> simp_all [DraftMessage.seenBy, draftsOnPath]
  | .withdraw x :: ms => by
    have ih := count_seenBy g ms
    by_cases h : x = g <;> simp_all [DraftMessage.seenBy, draftsOnPath]

/-- The protocol holds exactly if it holds of every group's view. -/
theorem protocolSound_iff {s : State} : s.ProtocolSound ↔ ∀ g : Fin 8, (s.draftView g).Sound := by
  have hsent (g : Fin 8) : (s.draftView g).path.count true = s.sentDrafts g := count_seenBy g s.paths.draftPath
  have hpath (g : Fin 8) : (s.draftView g).path = s.pathOf g :=
    congrArg (fun f => s.paths.draftPath.filterMap f) (funext fun m => by cases m <;> rfl)
  constructor
  · intro ⟨haccounted, hat⟩ g
    obtain ⟨hanswers, hwaiting, hstall, habandoned, hwithdraw, hlive⟩ := hat g
    refine ⟨?_, hanswers, ?_, ?_, habandoned, ?_, hlive⟩
    · rw [hsent]; exact haccounted g
    · rw [hsent]; exact hwaiting
    · rw [hsent]; exact hstall
    · rw [hsent, hpath]; exact hwithdraw
  · intro h
    refine ⟨fun g => ?_, fun g => ⟨(h g).inOrder, ?_, ?_, (h g).abandonedIdle, ?_, (h g).liveHeard⟩⟩
    · have := (h g).accounted; rwa [hsent] at this
    · have := (h g).waitingTaken; rwa [hsent] at this
    · have := (h g).stalledWaits; rwa [hsent] at this
    · have := (h g).withdrawAhead; rwa [hsent, hpath] at this

/-! ## What a sound view says -/

/-- Without a final answer and without WAITING, no answer is on its way. -/
theorem answers_nil {ks : List AnswerKind} (hfinal : ks.countP (·.isFinal) = 0) (hw : AnswerKind.waiting ∉ ks) : ks = [] :=
  List.eq_nil_iff_forall_not_mem.mpr fun k hk => by
    have hnot : k.isFinal ≠ true := List.countP_eq_zero.mp hfinal k hk
    cases k with
    | waiting => exact hw hk
    | taken | refused | placed | abandoned => exact hnot rfl

namespace DraftView.Sound

variable {v : DraftView} (h : v.Sound)
include h

/-- A group with no outstanding draft has nothing anywhere (R100). -/
theorem of_settled (ho : v.outstanding = false) : v.path.count true = 0 ∧ v.waiting = 0 ∧ v.answers = [] := by
  have ha := h.accounted
  simp only [ho, Bool.false_eq_true, if_false] at ha
  exact ⟨by omega, by omega, answers_nil (by omega) fun hw => by simp [(h.waitingTaken hw).1] at ho⟩

/-- At most one draft is outstanding (R100). -/
theorem total_le : v.path.count true + v.waiting + v.answers.countP (·.isFinal) ≤ 1 := by
  rw [h.accounted]
  split <;> omega

/-- What is anywhere is outstanding (R100). -/
theorem outstanding_of_pos (hp : 0 < v.path.count true + v.waiting + v.answers.countP (·.isFinal)) : v.outstanding = true := by
  by_contra ho
  rw [h.accounted, if_neg ho] at hp
  exact absurd hp (lt_irrefl 0)

/-- A draft that is still on the path neither waits nor is answered. -/
theorem of_sent (hp : true ∈ v.path) : v.outstanding = true ∧ v.path.count true = 1 ∧ v.waiting = 0 ∧ v.answers = [] := by
  have hpos : 0 < v.path.count true := List.count_pos_iff.mpr hp
  have hle := h.total_le
  refine ⟨h.outstanding_of_pos (by omega), by omega, by omega, answers_nil (by omega) fun hw => ?_⟩
  have := (h.waitingTaken hw).2
  omega

/-- A draft that waits has left the path and has no final answer; its WAITING may still be on its way. -/
theorem of_waits (hw : v.waiting ≠ 0) :
    v.outstanding = true ∧ v.path.count true = 0 ∧ v.waiting = 1 ∧ (v.answers = [] ∨ v.answers = [.waiting]) := by
  have hle := h.total_le
  have hfinal : v.answers.countP (·.isFinal) = 0 := by omega
  have horder := h.inOrder
  refine ⟨h.outstanding_of_pos (by omega), by omega, by omega, ?_⟩
  simp only [List.mem_cons, List.not_mem_nil, or_false] at horder
  rcases horder with ha | ha | ha | ha | ha | ha | ha | ha <;> simp_all [AnswerKind.isFinal]

/-- A final answer is the last, and its draft is nowhere else. -/
theorem of_answered {k : AnswerKind} {ks : List AnswerKind} (ha : v.answers = k :: ks) (hk : k.isFinal = true) :
    v.path.count true = 0 ∧ v.waiting = 0 ∧ ks = [] := by
  have hle := h.total_le
  have hpos : 0 < v.answers.countP (·.isFinal) := List.countP_pos_iff.mpr ⟨k, by simp [ha], hk⟩
  have horder := h.inOrder
  refine ⟨by omega, by omega, ?_⟩
  simp only [ha, List.mem_cons, List.cons.injEq, List.not_mem_nil, or_false] at horder
  rcases horder with ha | ha | ha | ha | ha | ha | ha | ha <;> simp_all [AnswerKind.isFinal]

/-- A draft at the front of the path: nothing else of it is anywhere, and behind it a group in service has nothing. -/
theorem of_sent_first {ps : List Bool} (hp : v.path = true :: ps) :
    v.outstanding = true ∧ ps.count true = 0 ∧ v.waiting = 0 ∧ v.answers = [] ∧ v.state.isStalled = false ∧
      (v.state ≠ .idle → ps = []) := by
  obtain ⟨ho, hcount, hw, ha⟩ := h.of_sent (by simp [hp])
  have hps : ps.count true = 0 := by simpa [hp] using hcount
  refine ⟨ho, hps, hw, ha, Bool.eq_false_iff.mpr fun hs => ?_, fun hne => ?_⟩
  · have := (h.stalledWaits hs).2.1
    omega
  · have hfalse : false ∉ ps := by simpa [hp] using (h.withdrawAhead hne ho).1
    refine List.eq_nil_iff_forall_not_mem.mpr fun p hmem => ?_
    cases p with
    | false => exact hfalse hmem
    | true => exact List.count_eq_zero.mp hps hmem

/-- A WITHDRAW on the path of a group in service has a draft behind it. -/
theorem of_withdraw_first {ps : List Bool} (hp : v.path = false :: ps) (hc : ps.count true = 0) (hne : v.state ≠ .idle) :
    v.outstanding = false := by
  refine Bool.eq_false_iff.mpr fun ho => ?_
  have hnil := (h.withdrawAhead hne ho).2 (by simp [hp, hc])
  simp [hp] at hnil

/-- Behind WAITING there is nothing, PLACED or ABANDONED. -/
theorem of_heard {ks : List AnswerKind} (ha : v.answers = .waiting :: ks) :
    v.outstanding = true ∧ v.path.count true = 0 ∧ (ks = [] ∨ ks = [.placed] ∨ ks = [.abandoned]) := by
  have horder := h.inOrder
  obtain ⟨ho, hp⟩ := h.waitingTaken (by simp [ha])
  refine ⟨ho, hp, ?_⟩
  simpa [ha] using horder

end DraftView.Sound

/-! ## What one command or message can do to a view -/

/-- One change of a group's view. -/
inductive DraftView.Step : DraftView → DraftView → Prop
  /-- START of a group with no draft outstanding (R67). -/
  | start (v : DraftView) (hi : v.state = .idle) (ho : v.outstanding = false) : Step v { v with state := .running }
  /-- HOLD and RESUME: a live group stays live, and a stalled one stalled (R68, R69). -/
  | hold (v : DraftView) (st : GroupState) (hl : st.isLive = v.state.isLive) (hs : st.isStalled = v.state.isStalled) :
      Step v { v with state := st }
  /-- STOP and COUNTING RESET (R70, R82). -/
  | stop (v : DraftView) : Step v { v with state := .idle }
  /-- A WITHDRAW sent for an IDLE group (R101). -/
  | withdraw (v : DraftView) (hi : v.state = .idle) : Step v { v with path := v.path ++ [false] }
  /-- A capture (R87, R94). -/
  | capture (v : DraftView) (st : GroupState) (hv : v.state.isLive = true) (ho : v.outstanding = false)
      (hl : st.isLive = true) : Step v { v with state := st, outstanding := true, path := v.path ++ [true] }
  /-- The draft reaches the queue and is placed at once or refused (R128, R130). -/
  | decided (v : DraftView) (ps : List Bool) (k : AnswerKind) (hp : v.path = true :: ps) (hk : k = .taken ∨ k = .refused) :
      Step v { v with path := ps, answers := v.answers ++ [k] }
  /-- The draft reaches the queue and waits (R129). -/
  | queued (v : DraftView) (ps : List Bool) (hp : v.path = true :: ps) :
      Step v { v with path := ps, waiting := v.waiting + 1, answers := v.answers ++ [.waiting] }
  /-- A WITHDRAW reaches the queue and is ignored (R134). -/
  | ignored (v : DraftView) (ps : List Bool) (hp : v.path = false :: ps) : Step v { v with path := ps }
  /-- A WITHDRAW reaches the queue and finds the draft waiting (R134). -/
  | abandoned (v : DraftView) (ps : List Bool) (n : Nat) (hp : v.path = false :: ps) (hw : v.waiting = n + 1) :
      Step v { v with path := ps, waiting := n, answers := v.answers ++ [.abandoned] }
  /-- The grant step places the waiting draft (R133). -/
  | granted (v : DraftView) (n : Nat) (hw : v.waiting = n + 1) :
      Step v { v with waiting := n, answers := v.answers ++ [.placed] }
  /-- TAKEN, REFUSED or ABANDONED arrives (R102, R104, R106). -/
  | answered (v : DraftView) (k : AnswerKind) (ks : List AnswerKind) (ha : v.answers = k :: ks)
      (hk : k = .taken ∨ k = .refused ∨ k = .abandoned) : Step v { v with outstanding := false, answers := ks }
  /-- PLACED arrives, and a stalled group goes back to its return state (R74, R105). -/
  | placed (v : DraftView) (ks : List AnswerKind) (st : GroupState) (ha : v.answers = .placed :: ks)
      (hs : v.state.isStalled = true → st.isLive = true) (hn : v.state.isStalled = false → st = v.state) :
      Step v { v with state := st, outstanding := false, answers := ks }
  /-- WAITING arrives, and a live group stalls (R73, R103). -/
  | heard (v : DraftView) (ks : List AnswerKind) (st : GroupState) (ha : v.answers = .waiting :: ks)
      (hl : v.state.isLive = true → st.isStalled = true) (hn : v.state.isLive = false → st = v.state) :
      Step v { v with state := st, answers := ks }
  /-- A device reset (R174, R175). -/
  | reset (v : DraftView) : Step v { state := .idle, outstanding := false, path := [], waiting := 0, answers := [] }

/-! ## The states of a group -/

namespace GroupState

variable {st : GroupState}

/-- A live group is not IDLE. -/
theorem ne_idle_of_live (h : st.isLive = true) : st ≠ .idle := by
  rintro rfl
  cases h

/-- A live group is not stalled. -/
theorem not_stalled_of_live (h : st.isLive = true) : st.isStalled = false := by
  cases st with
  | running | held => rfl
  | idle | stalled back => cases h

/-- A group that is neither live nor IDLE is stalled. -/
theorem idle_or_live_or_stalled (st : GroupState) : st = .idle ∨ st.isLive = true ∨ st.isStalled = true := by
  cases st with
  | idle => exact .inl rfl
  | running | held => exact .inr (.inl rfl)
  | stalled back => exact .inr (.inr rfl)

end GroupState

/-! ## Every change keeps the protocol -/

namespace DraftView.Sound

variable {v : DraftView} (h : v.Sound)
include h

/-- START. -/
theorem start (ho : v.outstanding = false) : DraftView.Sound { v with state := .running } := by
  obtain ⟨-, hw, ha⟩ := h.of_settled ho
  exact ⟨h.accounted, h.inOrder, h.waitingTaken, nofun, by simp [ha], by simp [ho], by simp [hw, ha]⟩

/-- HOLD and RESUME. -/
theorem hold {st : GroupState} (hl : st.isLive = v.state.isLive) (hs : st.isStalled = v.state.isStalled) :
    DraftView.Sound { v with state := st } := by
  have hidle : st = .idle ↔ v.state = .idle := by
    cases st <;> cases hst : v.state <;> simp_all [GroupState.isLive, GroupState.isStalled]
  refine ⟨h.accounted, h.inOrder, h.waitingTaken, fun hst => h.stalledWaits (hs ▸ hst), fun ha => ?_, fun hne => ?_, ?_⟩
  · exact hidle.mpr (h.abandonedIdle ha)
  · exact h.withdrawAhead (mt hidle.mpr hne)
  · exact fun hlive => h.liveHeard (hl ▸ hlive)

/-- STOP and COUNTING RESET. -/
theorem stop : DraftView.Sound { v with state := .idle } :=
  ⟨h.accounted, h.inOrder, h.waitingTaken, nofun, fun _ => rfl, fun hne => absurd rfl hne, nofun⟩

/-- A WITHDRAW sent for an IDLE group. -/
theorem withdraw (hi : v.state = .idle) : DraftView.Sound { v with path := v.path ++ [false] } := by
  have hcount : (v.path ++ [false]).count true = v.path.count true := by simp
  refine ⟨?_, h.inOrder, ?_, ?_, h.abandonedIdle, fun hne => absurd hi hne, h.liveHeard⟩
  · rw [hcount]; exact h.accounted
  · rw [hcount]; exact h.waitingTaken
  · rw [hcount]; exact h.stalledWaits

/-- A capture. -/
theorem capture {st : GroupState} (ho : v.outstanding = false) (hl : st.isLive = true) :
    DraftView.Sound { v with state := st, outstanding := true, path := v.path ++ [true] } := by
  obtain ⟨hp, hw, ha⟩ := h.of_settled ho
  have hfalse : ∀ p ∈ v.path, p = false := fun p hp' => by
    cases p with
    | false => rfl
    | true => exact absurd hp' (List.count_eq_zero.mp hp)
  have hdrop : (v.path ++ [true]).dropWhile (· == false) = [true] := by
    rw [List.dropWhile_append_of_pos (fun p hp' => by simp [hfalse p hp'])]
    rfl
  refine ⟨by simp [hp, hw, ha], h.inOrder, by simp [ha], ?_, by simp [ha], fun _ _ => ⟨?_, by simp⟩, by simp [hw, ha]⟩
  · simp [GroupState.not_stalled_of_live hl]
  · rw [hdrop]; simp

/-- The draft decided at once. -/
theorem decided {ps : List Bool} {k : AnswerKind} (hp : v.path = true :: ps) (hk : k = .taken ∨ k = .refused) :
    DraftView.Sound { v with path := ps, answers := v.answers ++ [k] } := by
  obtain ⟨ho, hps, hw, ha, hs, hne⟩ := h.of_sent_first hp
  refine ⟨?_, ?_, ?_, by simp [hs], ?_, fun hst _ => by simp [hne hst], ?_⟩ <;>
    obtain rfl | rfl := hk <;> simp [ho, hps, hw, ha, AnswerKind.isFinal]

/-- The draft joins the wait list. -/
theorem queued {ps : List Bool} (hp : v.path = true :: ps) :
    DraftView.Sound { v with path := ps, waiting := v.waiting + 1, answers := v.answers ++ [.waiting] } := by
  obtain ⟨ho, hps, hw, ha, hs, hne⟩ := h.of_sent_first hp
  exact ⟨by simp [ho, hps, hw, ha, AnswerKind.isFinal], by simp [ha], fun _ => ⟨ho, hps⟩, by simp [hs], by simp [ha],
    fun hst _ => by simp [hne hst], by simp⟩

/-- A WITHDRAW ignored. -/
theorem ignored {ps : List Bool} (hp : v.path = false :: ps) : DraftView.Sound { v with path := ps } := by
  have hcount : v.path.count true = ps.count true := by simp [hp]
  have hdrop : v.path.dropWhile (· == false) = ps.dropWhile (· == false) := by simp [hp]
  refine ⟨?_, h.inOrder, ?_, ?_, h.abandonedIdle, fun hne ho => ⟨?_, fun hc => ?_⟩, h.liveHeard⟩
  · rw [← hcount]; exact h.accounted
  · rw [← hcount]; exact h.waitingTaken
  · rw [← hcount]; exact h.stalledWaits
  · rw [← hdrop]; exact (h.withdrawAhead hne ho).1
  · exact absurd (ho.symm.trans (h.of_withdraw_first hp hc hne)) nofun

/-- A waiting draft abandoned: its group is IDLE. -/
theorem abandoned {ps : List Bool} {n : Nat} (hp : v.path = false :: ps) (hw : v.waiting = n + 1) :
    DraftView.Sound { v with path := ps, waiting := n, answers := v.answers ++ [.abandoned] } := by
  obtain ⟨ho, hcount, hone, ha⟩ := h.of_waits (by omega)
  have hps : ps.count true = 0 := by simpa [hp] using hcount
  have hn : n = 0 := by omega
  have hidle : v.state = .idle := by
    by_contra hne
    simp [h.of_withdraw_first hp hps hne] at ho
  refine ⟨?_, ?_, fun _ => ⟨ho, hps⟩, by simp [hidle, GroupState.isStalled], fun _ => hidle, fun hne => absurd hidle hne,
    by simp [hidle, GroupState.isLive]⟩ <;>
    obtain ha | ha := ha <;> simp [ho, hps, hn, ha, AnswerKind.isFinal]

/-- A waiting draft placed: its group is stalled, or has WAITING still to hear, or is IDLE. -/
theorem granted {n : Nat} (hw : v.waiting = n + 1) :
    DraftView.Sound { v with waiting := n, answers := v.answers ++ [.placed] } := by
  obtain ⟨ho, hcount, hone, ha⟩ := h.of_waits (by omega)
  have hn : n = 0 := by omega
  refine ⟨?_, ?_, fun _ => ⟨ho, hcount⟩, fun hs => ⟨ho, hcount, .inr ?_⟩, ?_, h.withdrawAhead, fun hl _ => ?_⟩
  · obtain ha | ha := ha <;> simp [ho, hcount, hn, ha, AnswerKind.isFinal]
  · obtain ha | ha := ha <;> simp [ha]
  · obtain ⟨-, -, ha' | ha'⟩ := h.stalledWaits hs
    · simp [ha']
    · simp [ha'] at ha
  · obtain ha | ha := ha <;> simp [ha]
  · exact List.mem_append_left _ (h.liveHeard hl (.inl (by omega)))

/-- TAKEN, REFUSED and ABANDONED. -/
theorem answered {k : AnswerKind} {ks : List AnswerKind} (ha : v.answers = k :: ks)
    (hk : k = .taken ∨ k = .refused ∨ k = .abandoned) :
    DraftView.Sound { v with outstanding := false, answers := ks } := by
  have hfinal : k.isFinal = true := by obtain rfl | rfl | rfl := hk <;> rfl
  obtain ⟨hp, hw, rfl⟩ := h.of_answered ha hfinal
  refine ⟨by simp [hp, hw], by simp, by simp, fun hs => ?_, by simp, fun _ ho => absurd ho (by simp), by simp [hw]⟩
  obtain ⟨-, -, hnil | hplaced⟩ := h.stalledWaits hs
  · simp [hnil] at ha
  · rw [hplaced] at ha
    cases ha
    simp at hk

/-- PLACED: a live group does not meet it. -/
theorem placed {ks : List AnswerKind} {st : GroupState} (ha : v.answers = .placed :: ks)
    (hs : v.state.isStalled = true → st.isLive = true) (hn : v.state.isStalled = false → st = v.state) :
    DraftView.Sound { v with state := st, outstanding := false, answers := ks } := by
  obtain ⟨hp, hw, rfl⟩ := h.of_answered ha rfl
  have hstalled : st.isStalled = false := by
    cases hst : v.state.isStalled with
    | false => rw [hn hst, hst]
    | true => exact GroupState.not_stalled_of_live (hs hst)
  exact ⟨by simp [hp, hw], by simp, by simp, by simp [hstalled], by simp, fun _ ho => absurd ho (by simp), by simp [hw]⟩

/-- WAITING: a live group stalls, and a stalled group does not meet it. -/
theorem heard {ks : List AnswerKind} {st : GroupState} (ha : v.answers = .waiting :: ks)
    (hl : v.state.isLive = true → st.isStalled = true) (hn : v.state.isLive = false → st = v.state) :
    DraftView.Sound { v with state := st, answers := ks } := by
  obtain ⟨ho, hp, hks⟩ := h.of_heard ha
  have haccounted := h.accounted
  simp only [ha, List.countP_cons, AnswerKind.isFinal, Bool.false_eq_true, if_false, Nat.add_zero] at haccounted
  have hheard : AnswerKind.waiting ∉ ks := by
    obtain rfl | rfl | rfl := hks <;> simp
  have hstate : (v.state = .idle ∧ st = .idle) ∨ (v.state ≠ .idle ∧ st.isStalled = true) := by
    obtain hidle | hlive | hstalled := v.state.idle_or_live_or_stalled
    · exact .inl ⟨hidle, (hn (by rw [hidle]; rfl)).trans hidle⟩
    · exact .inr ⟨GroupState.ne_idle_of_live hlive, hl hlive⟩
    · obtain ⟨-, -, hnil | hplaced⟩ := h.stalledWaits hstalled
      · simp [hnil] at ha
      · simp [hplaced] at ha
  refine ⟨haccounted, ?_, fun hm => absurd hm hheard, fun hs => ⟨ho, hp, ?_⟩, fun hm => ?_, fun hne => ?_,
    fun hlive => ?_⟩
  · obtain rfl | rfl | rfl := hks <;> simp
  · obtain hks | hks | rfl := hks
    · exact .inl hks
    · exact .inr hks
    · obtain ⟨-, rfl⟩ | ⟨hne, -⟩ := hstate
      · cases hs
      · exact absurd (h.abandonedIdle (by simp [ha])) hne
  · obtain ⟨-, hst⟩ | ⟨hne, -⟩ := hstate
    · exact hst
    · exact absurd (h.abandonedIdle (by simp [ha, hm])) hne
  · obtain ⟨-, hst⟩ | ⟨hv, -⟩ := hstate
    · exact absurd hst hne
    · exact h.withdrawAhead hv
  · obtain ⟨-, rfl⟩ | ⟨-, hst⟩ := hstate
    · cases hlive
    · simp [GroupState.not_stalled_of_live hlive] at hst

end DraftView.Sound

/-- Every change keeps the protocol. -/
theorem DraftView.Step.sound {v w : DraftView} (hstep : v.Step w) (h : v.Sound) : w.Sound := by
  cases hstep with
  | start hi ho => exact h.start ho
  | hold st hl hs => exact h.hold hl hs
  | stop => exact h.stop
  | withdraw hi => exact h.withdraw hi
  | capture st hv ho hl => exact h.capture ho hl
  | decided ps k hp hk => exact h.decided hp hk
  | queued ps hp => exact h.queued hp
  | ignored ps hp => exact h.ignored hp
  | abandoned ps n hp hw => exact h.abandoned hp hw
  | granted n hw => exact h.granted hw
  | answered k ks ha hk => exact h.answered ha hk
  | placed ks st ha hs hn => exact h.placed ha hs hn
  | heard ks st ha hl hn => exact h.heard ha hl hn
  | reset => exact ⟨rfl, List.mem_cons_self, nofun, nofun, nofun, fun hne => absurd rfl hne, nofun⟩

end Sys2Proof.Machine
end

section
/-! What one state must have of another so that the draft protocol and the chain requests stay sound: each group's view has
gone through changes of the protocol, and chain requests stay sound; and the operations of groups and of captures, which do so
(R67 to R74, R80, R87, R94, R101 to R106, R109 to R115). -/

namespace Sys2Proof.Machine

/-! ## Following the protocol -/

/-- From `s` to `t` each group's view has gone through changes of the protocol, and chain requests stay sound. -/
structure State.Follows (s t : State) : Prop where
  drafts : ∀ g : Fin 8, Relation.ReflTransGen DraftView.Step (s.draftView g) (t.draftView g)
  chains : s.ChainsSound → t.ChainsSound

/-- Changes of a view one after another keep its protocol. -/
theorem DraftView.sound_of_steps {v w : DraftView} (h : Relation.ReflTransGen DraftView.Step v w) (hv : v.Sound) : w.Sound := by
  induction h with
  | refl => exact hv
  | tail _ hstep ih => exact hstep.sound ih

/-- What follows the protocol keeps it. -/
theorem State.Follows.protocolSound {s t : State} (h : s.Follows t) (hs : s.ProtocolSound) : t.ProtocolSound := by
  refine protocolSound_iff.mpr fun g => ?_
  exact DraftView.sound_of_steps (h.drafts g) (protocolSound_iff.mp hs g)

/-- What the two conditions look at in a group record. -/
def Group.service (x : Group) : GroupState × Bool × Option (Fin 8) := (x.state, x.outstanding, x.chainNext)

/-- What the two conditions look at, apart from the fields of group records that they do not. -/
def State.protocolPart (s : State) : Vector Group 8 × List DraftMessage × List Draft × List Answer × List ChainRequest :=
  (s.groups, s.paths.draftPath, s.queue.waitList, s.paths.answers, s.paths.chainRequests)

/-- The view of a group whose record has changed. -/
theorem modifyGroup_draftView_same (s : State) (g : Fin 8) (f : Group → Group) : (s.modifyGroup g f).draftView g =
    { s.draftView g with state := (f (s.group g)).state, outstanding := (f (s.group g)).outstanding } := by
  simp [State.draftView, viewOf]

/-- The view of another group. -/
theorem modifyGroup_draftView_other (s : State) {g h : Fin 8} (f : Group → Group) (hh : h ≠ g) :
    (s.modifyGroup g f).draftView h = s.draftView h := by
  simp [State.draftView, State.modifyGroup_group, hh]

/-- A change of one group's record that leaves its chain next leaves every chain next. -/
theorem modifyGroup_chainNext {s : State} {g : Fin 8} {f : Group → Group}
    (hnext : (f (s.group g)).chainNext = (s.group g).chainNext) (h : Fin 8) :
    ((s.modifyGroup g f).group h).chainNext = (s.group h).chainNext := by
  rw [State.modifyGroup_group]
  split <;> rename_i hh
  · exact hh ▸ hnext
  · rfl

namespace State.Follows

variable {s t u : State}

theorem refl (s : State) : s.Follows s := ⟨fun _ => .refl, id⟩

theorem trans (h : s.Follows t) (h' : t.Follows u) : s.Follows u :=
  ⟨fun g => (h.drafts g).trans (h'.drafts g), h'.chains ∘ h.chains⟩

/-- An accepted command or commit does what its owner does. -/
theorem accepted (h : s.Follows t) : s.Follows (accept t).1 := h

/-- The chain requests on their way, and the chain next of each group, decide whether they are sound. -/
theorem chains_of (hnext : ∀ g : Fin 8, (t.group g).chainNext = (s.group g).chainNext)
    (hrequests : s.ChainsSound → ∀ r ∈ t.paths.chainRequests, r ∈ s.paths.chainRequests ∨ r.Sound)
    (hs : s.ChainsSound) : t.ChainsSound := by
  refine ⟨fun g => ?_, fun r hr => ?_⟩
  · rw [hnext]
    exact hs.1 g
  · obtain hr | hr := hrequests hs r hr
    · exact hs.2 r hr
    · exact hr

/-- A change of one group's view alone. -/
theorem at_group (g : Fin 8) (hstep : (s.draftView g).Step (t.draftView g))
    (hother : ∀ h : Fin 8, h ≠ g → t.draftView h = s.draftView h)
    (hnext : ∀ h : Fin 8, (t.group h).chainNext = (s.group h).chainNext)
    (hrequests : t.paths.chainRequests = s.paths.chainRequests) : s.Follows t := by
  refine ⟨fun h => ?_, chains_of hnext fun _ r hr => .inl (hrequests ▸ hr)⟩
  by_cases hh : h = g
  · exact hh ▸ .single hstep
  · rw [hother h hh]

/-- A change that neither condition looks at. -/
theorem of_service (hservice : ∀ g : Fin 8, (t.group g).service = (s.group g).service)
    (hpath : t.paths.draftPath = s.paths.draftPath) (hwait : t.queue.waitList = s.queue.waitList)
    (hanswers : t.paths.answers = s.paths.answers) (hrequests : t.paths.chainRequests = s.paths.chainRequests) :
    s.Follows t := by
  have hgroup (g : Fin 8) : (t.group g).state = (s.group g).state ∧ (t.group g).outstanding = (s.group g).outstanding ∧
      (t.group g).chainNext = (s.group g).chainNext := by
    simpa [Group.service] using hservice g
  refine ⟨fun g => ?_, chains_of (fun g => (hgroup g).2.2) fun _ r hr => .inl (hrequests ▸ hr)⟩
  obtain ⟨hstate, hout, -⟩ := hgroup g
  have hview : t.draftView g = s.draftView g := by
    simp only [State.draftView, viewOf, hstate, hout, hpath, hwait, hanswers]
  rw [hview]

/-- A change of other records and paths alone. -/
theorem of_part (h : t.protocolPart = s.protocolPart) : s.Follows t := by
  simp only [State.protocolPart, Prod.mk.injEq] at h
  obtain ⟨hgroups, hpath, hwait, hanswers, hrequests⟩ := h
  exact of_service (fun g => congrArg _ (State.group_congr hgroups g)) hpath hwait hanswers hrequests

/-- One operation after another, each following the protocol. -/
theorem foldl {α : Type} {f : State → α → State} (hf : ∀ (u : State) (a : α), u.Follows (f u a)) (l : List α)
    (s : State) : s.Follows (l.foldl f s) :=
  foldl_keeps s.Follows f (fun u a h => h.trans (hf u a)) l s (refl s)

/-- A change of counters. -/
theorem mapCounters (s : State) (f : Fin 32 → Counter → Counter) : s.Follows (s.mapCounters f) :=
  of_service (fun g => congrArg _ (s.mapCounters_group f g)) (by rw [s.mapCounters_paths]) (by rw [s.mapCounters_queue])
    (by rw [s.mapCounters_paths]) (by rw [s.mapCounters_paths])

/-- A change of a group's members. -/
theorem mapMembers (s : State) (g : Fin 8) (f : Counter → Counter) : s.Follows (s.mapMembers g f) := mapCounters s _

/-- A change of one group's record that is a change of the protocol. -/
theorem modifyGroup {g : Fin 8} {f : Group → Group}
    (hstep : (s.draftView g).Step
      { s.draftView g with state := (f (s.group g)).state, outstanding := (f (s.group g)).outstanding })
    (hnext : (f (s.group g)).chainNext = (s.group g).chainNext) : s.Follows (s.modifyGroup g f) :=
  at_group g (modifyGroup_draftView_same s g f ▸ hstep) (fun _ hh => modifyGroup_draftView_other s f hh)
    (modifyGroup_chainNext hnext) rfl

/-- A change of one group's record that neither condition looks at. -/
theorem modifyGroup_quiet {g : Fin 8} {f : Group → Group} (hf : (f (s.group g)).service = (s.group g).service) :
    s.Follows (s.modifyGroup g f) := by
  refine of_service (fun h => ?_) rfl rfl rfl rfl
  rw [State.modifyGroup_group]
  split <;> rename_i hh
  · exact hh ▸ hf
  · rfl

end State.Follows

open State (Follows)

/-! ## Group commands (R67 to R70) -/

section Commands

variable (g : Fin 8) (s : State)

/-- GROUP START. -/
theorem groupStart_follows : s.Follows (groupStart g s).1 := by
  unfold groupStart
  split <;> rename_i hi
  · split <;> rename_i ho
    · exact .refl s
    · have hstart : s.Follows (s.modifyGroup g fun x => { x with state := .running, countdown := x.period }) :=
        .modifyGroup (.start _ hi (Bool.eq_false_iff.mpr ho)) rfl
      exact .accepted (hstart.trans (.mapMembers _ g _))
  · exact .refl s

/-- A live group that stays live, and a stalled group that stays stalled. -/
theorem changeState_follows {st : GroupState} (hl : st.isLive = (s.group g).state.isLive)
    (hs : st.isStalled = (s.group g).state.isStalled) : s.Follows (s.modifyGroup g fun x => { x with state := st }) :=
  .modifyGroup (.hold _ st hl hs) rfl

/-- GROUP HOLD. -/
theorem groupHold_follows : s.Follows (groupHold g s).1 := by
  unfold groupHold
  split <;> rename_i hs
  · exact .refl s
  · exact .accepted (changeState_follows g s (by rw [hs]; rfl) (by rw [hs]; rfl))
  · exact .refl s
  · exact .accepted (changeState_follows g s (by rw [hs]; rfl) (by rw [hs]; rfl))

/-- GROUP RESUME. -/
theorem groupResume_follows : s.Follows (groupResume g s).1 := by
  unfold groupResume
  split <;> rename_i hs
  · exact .refl s
  · exact .refl s
  · exact .accepted (changeState_follows g s (by rw [hs]; rfl) (by rw [hs]; rfl))
  · exact .accepted (changeState_follows g s (by rw [hs]; rfl) (by rw [hs]; rfl))

/-- The views after a message has joined the draft path. -/
theorem sendDraft_draftView (m : DraftMessage) (h : Fin 8) :
    (s.sendDraft m).draftView h = { s.draftView h with path := (s.draftView h).path ++ (m.seenBy h).toList } := by
  cases hm : m.seenBy h <;> simp [State.draftView, viewOf, List.filterMap_append, hm]

/-- A WITHDRAW sent for an IDLE group. -/
theorem sendWithdraw_follows {s : State} (hi : (s.group g).state = .idle) : s.Follows (s.sendDraft (.withdraw g)) := by
  refine .at_group g ?_ (fun h hh => ?_) (fun _ => rfl) rfl
  · rw [sendDraft_draftView]
    simp only [DraftMessage.seenBy, if_true]
    exact .withdraw _ hi
  · rw [sendDraft_draftView]
    simp [DraftMessage.seenBy, Ne.symm hh]

/-- A WITHDRAW sent for an IDLE group whose draft is outstanding. -/
theorem withdrawIfOutstanding_follows {s : State} (hi : (s.group g).state = .idle) :
    s.Follows (withdrawIfOutstanding g s) := by
  unfold withdrawIfOutstanding
  split
  · exact sendWithdraw_follows g hi
  · exact .refl s

/-- GROUP STOP. -/
theorem groupStop_follows : s.Follows (groupStop g s).1 := by
  unfold groupStop
  split
  · exact .refl s
  · have hstop : s.Follows (s.modifyGroup g fun x => { x with state := .idle, stallNoted := false }) :=
      .modifyGroup (.stop _) rfl
    exact .accepted (hstop.trans (withdrawIfOutstanding_follows g (by simp)))

/-- GROUP CLEAR. -/
theorem groupClear_follows : s.Follows (groupClear g s).1 := by
  unfold groupClear
  split
  · exact .accepted (.mapMembers s g _)
  · exact .refl s

/-- GROUP RELOAD. -/
theorem groupReload_follows : s.Follows (groupReload g s).1 := by
  unfold groupReload
  split
  · exact .accepted (.mapMembers s g _)
  · exact .refl s

/-- Every group made IDLE. -/
theorem countingResetGroups_follows : s.Follows (s.mapGroups fun _ x => x.countingReset) where
  drafts h := by
    have hview : (s.mapGroups fun _ x => x.countingReset).draftView h = { s.draftView h with state := .idle } := by
      simp [State.draftView, viewOf, Group.countingReset]
    rw [hview]
    exact .single (.stop _)
  chains := Follows.chains_of (fun h => by simp [Group.countingReset]) fun _ r hr => .inl (by simpa using hr)

/-- COUNTING RESET: the WITHDRAWs, which it sends first, are as if sent for groups already IDLE. -/
theorem countingReset_follows : s.Follows (countingReset s).1 := by
  have hsend (u : State) (g : Fin 8) (hu : s.Follows (u.mapGroups fun _ x => x.countingReset)) :
      s.Follows ((withdrawIfOutstanding g u).mapGroups fun _ x => x.countingReset) := by
    unfold withdrawIfOutstanding
    split
    · exact hu.trans (sendWithdraw_follows g (s := u.mapGroups fun _ x => x.countingReset) (by simp [Group.countingReset]))
    · exact hu
  have hgroups := foldl_keeps (fun u : State => s.Follows (u.mapGroups fun _ x => x.countingReset)) _ hsend groupIds s
    (countingResetGroups_follows s)
  exact .accepted (hgroups.trans (.mapCounters _ _))

end Commands

/-! ## Answers (R73, R74, R102 to R106) -/

section Answers

variable {s : State} {g : Fin 8} {rest : List Answer}

/-- Two changes of one group's record are one. -/
theorem modifyGroup_modifyGroup (s : State) (g : Fin 8) (f f' : Group → Group) :
    (s.modifyGroup g f).modifyGroup g f' = s.modifyGroup g fun x => f' (f x) := by
  simp [State.modifyGroup]

/-- The views while an answer path is another. -/
theorem withAnswers_draftView (s : State) (as : List Answer) (j : Fin 8) :
    State.draftView { s with paths := { s.paths with answers := as } } j =
      { s.draftView j with answers := (as.filter fun a => decide (a.group = j)).map (·.kind) } := rfl

/-- An answer taken off its path, and what it makes of its group's record. -/
theorem answer_follows {kind : AnswerKind} {f : Group → Group} (h : s.paths.answers = ⟨kind, g⟩ :: rest)
    (hstep : ∀ ks : List AnswerKind, (s.draftView g).answers = kind :: ks → (s.draftView g).Step
      { s.draftView g with
        state := (f (s.group g)).state, outstanding := (f (s.group g)).outstanding, answers := ks })
    (hnext : (f (s.group g)).chainNext = (s.group g).chainNext) :
    s.Follows (State.modifyGroup { s with paths := { s.paths with answers := rest } } g f) := by
  refine .at_group g ?_ (fun j hj => ?_) (modifyGroup_chainNext hnext) rfl
  · rw [modifyGroup_draftView_same, withAnswers_draftView]
    exact hstep _ (by simp [State.draftView, viewOf, h])
  · rw [modifyGroup_draftView_other _ _ hj, withAnswers_draftView]
    simp [State.draftView, viewOf, h, Ne.symm hj]

/-- TAKEN, REFUSED and ABANDONED. -/
theorem clearOutstanding_follows {kind : AnswerKind} (h : s.paths.answers = ⟨kind, g⟩ :: rest)
    (hk : kind = .taken ∨ kind = .refused ∨ kind = .abandoned) :
    s.Follows (clearOutstanding g { s with paths := { s.paths with answers := rest } }) :=
  answer_follows h (fun ks ha => .answered _ kind ks ha hk) rfl

/-- What WAITING does to a group: a live one stalls, another stays (R73). -/
theorem Group.stall_cases (x : Group) : (x.state.isLive = true → x.stall.state.isStalled = true) ∧
    (x.state.isLive = false → x.stall.state = x.state) ∧ x.stall.outstanding = x.outstanding := by
  cases h : x.state <;> simp [Group.stall, h, GroupState.isLive, GroupState.isStalled]

/-- What PLACED does to a group: a stalled one goes back to its return state, another stays (R74). -/
theorem Group.unstall_cases (x : Group) : (x.state.isStalled = true → x.unstall.state.isLive = true) ∧
    (x.state.isStalled = false → x.unstall.state = x.state) ∧ x.unstall.outstanding = x.outstanding := by
  cases h : x.state with
  | stalled back => cases back <;> simp [Group.unstall, h, GroupState.isLive, GroupState.isStalled]
  | _ => simp [Group.unstall, h, GroupState.isStalled]

/-- WAITING. -/
theorem stall_follows (h : s.paths.answers = ⟨.waiting, g⟩ :: rest) :
    s.Follows (State.modifyGroup { s with paths := { s.paths with answers := rest } } g Group.stall) := by
  obtain ⟨hl, hn, ho⟩ := (s.group g).stall_cases
  refine answer_follows h (fun ks ha => ?_) (s.group g).stall_chainNext
  rw [ho]
  exact .heard _ ks _ ha hl hn

/-- PLACED. -/
theorem unstall_follows (h : s.paths.answers = ⟨.placed, g⟩ :: rest) :
    s.Follows ((clearOutstanding g { s with paths := { s.paths with answers := rest } }).modifyGroup g Group.unstall) := by
  obtain ⟨hl, hn, ho⟩ := Group.unstall_cases { s.group g with outstanding := false }
  rw [clearOutstanding, modifyGroup_modifyGroup]
  refine answer_follows h (fun ks ha => ?_) (Group.unstall_chainNext _)
  rw [ho]
  exact .placed _ ks _ ha hl hn

end Answers

end Sys2Proof.Machine
end

section
/-! Captures, source events, ticks and the Snapshot Queue follow the draft protocol, and keep the chain requests sound (R58, R60,
R75, R87 to R95, R109 to R118, R127 to R134). -/

namespace Sys2Proof.Machine

open State (Follows)

/-! ## Chain requests (R109, R112 to R115) -/

/-- The first request of a chain (R112). -/
theorem firstRequest_sound {g n : Fin 8} (tag : BitVec 8) (hn : n ≠ g) : ChainRequest.Sound ⟨g, tag, [g], 1, n⟩ := by
  simp [ChainRequest.Sound, hn]

/-- Who is in a visited set with a group added (R113). -/
theorem mem_addVisited {g h : Fin 8} {visited : List (Fin 8)} : h ∈ addVisited g visited ↔ h ∈ visited ∨ h = g := by
  unfold addVisited
  split <;> rename_i hg
  · exact ⟨.inl, fun hh => hh.elim id fun e => e ▸ hg⟩
  · simp

/-- No group is added to a visited set twice. -/
theorem addVisited_nodup {g : Fin 8} {visited : List (Fin 8)} (h : visited.Nodup) : (addVisited g visited).Nodup := by
  unfold addVisited
  split <;> rename_i hg
  · exact h
  · exact List.nodup_append'.mpr ⟨h, List.nodup_singleton g, by simpa using hg⟩

/-- A request passed on (R113, R115): with a group besides those visited, they are at most seven. -/
theorem passedRequest_sound {r : ChainRequest} (h : r.Sound) {g n : Fin 8} (hn : n ∉ addVisited g r.visited) :
    ChainRequest.Sound ⟨r.origin, r.chainTag, addVisited g r.visited, (addVisited g r.visited).length, n⟩ := by
  obtain ⟨horigin, hnodup, -⟩ := h
  have hmem : r.origin ∈ addVisited g r.visited := mem_addVisited.mpr (.inl horigin)
  have hall : (n :: addVisited g r.visited).Nodup := List.nodup_cons.mpr ⟨hn, addVisited_nodup hnodup⟩
  have hlength := hall.length_le_card
  simp only [List.length_cons, Fintype.card_fin] at hlength
  exact ⟨hmem, addVisited_nodup hnodup, rfl, List.length_pos_of_mem hmem, by dsimp only; omega, hn⟩

/-- The sixth step of a capture sends a sound request or none. -/
theorem passChain_requests {g : Fin 8} {next : Option (Fin 8)} {cause : CaptureCause} (tag : BitVec 8) (s : State)
    (hnext : next ≠ some g) (hcause : ∀ r, cause = .chain r → r.Sound) :
    ∀ r ∈ (passChain g next tag cause s).paths.chainRequests, r ∈ s.paths.chainRequests ∨ r.Sound := by
  intro r hr
  cases next with
  | none => exact .inl hr
  | some n =>
    have hn : n ≠ g := fun e => hnext (congrArg some e)
    cases cause with
    | chain q =>
      simp only [passChain] at hr
      split at hr <;> rename_i hv
      · exact .inl hr
      · obtain hr | hr := List.mem_append.mp hr
        · exact .inl hr
        · exact .inr (List.mem_singleton.mp hr ▸ passedRequest_sound (hcause q rfl) hv)
    | host | periodic | overflow set =>
      obtain hr | hr := List.mem_append.mp hr
      · exact .inl hr
      · exact .inr (List.mem_singleton.mp hr ▸ firstRequest_sound tag hn)

/-! ## Captures (R87, R91 to R95) -/

section Captures

variable {s : State}

/-- A group that can take a capture is live, with no draft outstanding (R87). -/
theorem Group.canCapture_iff {x : Group} : x.canCapture = true ↔ x.state.isLive = true ∧ x.outstanding = false := by
  cases h : x.state <;> simp [Group.canCapture, GroupState.isLive, h]

/-- A live group that captures stays live (R93). -/
theorem Group.afterCapture_live {x : Group} (h : x.state.isLive = true) : x.afterCapture.state.isLive = true := by
  simp only [Group.afterCapture]
  split
  · rfl
  · exact h

/-- The view of the group that captures. -/
theorem takeCapture_draftView_same (g : Fin 8) (cause : CaptureCause) (s : State) :
    (takeCapture g cause s).draftView g = { s.draftView g with
      state := (s.group g).afterCapture.state, outstanding := true, path := (s.draftView g).path ++ [true] } := by
  have hgroup : (takeCapture g cause s).group g = (s.group g).afterCapture := by simp [takeCapture_group]
  simp only [State.draftView, hgroup]
  rw [takeCapture_frame]
  simp [viewOf, Group.afterCapture, DraftMessage.seenBy, State.draftOf]

/-- The view of another group. -/
theorem takeCapture_draftView_other {g h : Fin 8} (cause : CaptureCause) (s : State) (hh : h ≠ g) :
    (takeCapture g cause s).draftView h = s.draftView h := by
  have hgroup : (takeCapture g cause s).group h = s.group h := by simp [takeCapture_group, hh]
  simp only [State.draftView, hgroup]
  rw [takeCapture_frame]
  simp [viewOf, DraftMessage.seenBy, State.draftOf, Ne.symm hh]

/-- A capture at the views. -/
theorem takeCapture_drafts {g : Fin 8} (cause : CaptureCause) (hcan : (s.group g).canCapture = true) (h : Fin 8) :
    Relation.ReflTransGen DraftView.Step (s.draftView h) ((takeCapture g cause s).draftView h) := by
  obtain ⟨hlive, hout⟩ := Group.canCapture_iff.mp hcan
  by_cases hh : h = g
  · subst hh
    rw [takeCapture_draftView_same]
    exact .single (.capture _ _ hlive hout (Group.afterCapture_live hlive))
  · rw [takeCapture_draftView_other cause s hh]

/-- A capture at the chain requests. -/
theorem takeCapture_chains (g : Fin 8) {cause : CaptureCause} (hcause : ∀ r, cause = .chain r → r.Sound)
    (hs : s.ChainsSound) : (takeCapture g cause s).ChainsSound :=
  Follows.chains_of (takeCapture_same g cause s).chainNext
    (fun hs r hr => by simpa using passChain_requests _ _ (hs.1 g) hcause r hr) hs

/-- A missed capture. -/
theorem missCapture_follows (g : Fin 8) (s : State) : s.Follows (missCapture g s) :=
  (Follows.modifyGroup_quiet (g := g) (f := fun x => { x with missed := satInc x.missed }) rfl).trans (.of_part rfl)

/-- GROUP CAPTURE. -/
theorem groupCapture_follows (g : Fin 8) (s : State) : s.Follows (groupCapture g s).1 := by
  unfold groupCapture
  split <;> rename_i hcan
  · exact .accepted ⟨takeCapture_drafts _ hcan, takeCapture_chains g nofun⟩
  · split <;> exact .refl s

/-- A PERIODIC or OVERFLOW cause at a group. -/
theorem captureCause_follows {cause : CaptureCause} (hcause : ∀ r, cause ≠ .chain r) (g : Fin 8) (s : State) :
    s.Follows (captureCause g cause s) := by
  unfold captureCause
  split <;> rename_i hcan
  · exact ⟨takeCapture_drafts _ hcan, takeCapture_chains g fun r e => absurd e (hcause r)⟩
  · split
    · exact .refl s
    · exact missCapture_follows g s

/-- A chain request taken off its path, at its target (R116 to R118). -/
theorem takeChainRequest_follows {r : ChainRequest} {rest : List ChainRequest} (h : s.paths.chainRequests = r :: rest) :
    s.Follows (takeChainRequest r { s with paths := { s.paths with chainRequests := rest } }) := by
  have hpop : s.Follows { s with paths := { s.paths with chainRequests := rest } } :=
    ⟨fun _ => .refl, Follows.chains_of (fun _ => rfl) fun _ q hq => .inl (h ▸ List.mem_cons_of_mem r hq)⟩
  unfold takeChainRequest
  split <;> rename_i hcan
  · exact ⟨fun g => (hpop.drafts g).trans (takeCapture_drafts _ hcan g),
      fun hs => takeCapture_chains _ (fun q hq => by cases hq; exact hs.2 r (h ▸ List.mem_cons_self)) (hpop.chains hs)⟩
  · split
    · exact hpop.trans (.of_part rfl)
    · exact hpop.trans (missCapture_follows _ _)

end Captures

/-! ## Source events and ticks (R58, R60, R75) -/

/-- The losses of an event noted. -/
theorem noteLosses_follows (lost : Fin 8 → Nat) (s : State) : s.Follows (noteLosses lost s) := by
  have hgroups : s.Follows (s.mapGroups fun g x => x.noteLoss (lost g)) := by
    refine .of_service (fun g => ?_) (by rw [s.mapGroups_paths]) (by rw [s.mapGroups_queue]) (by rw [s.mapGroups_paths])
      (by rw [s.mapGroups_paths])
    rw [s.mapGroups_group]
    unfold Group.noteLoss
    split <;> rfl
  have hreports := hgroups.trans (.foldl (f := fun u g => u.engineNotice (.error .stallLoss (some g)))
    (fun _ _ => .of_part rfl) (stallReportOrder s.freeCount (firstLosses lost s)) _)
  unfold noteLosses
  dsimp only
  split
  · exact hreports
  · exact hreports.trans (.of_part rfl)

/-- One source event. -/
theorem applySource_follows (src : Source) (a : Amount) (s : State) : s.Follows (applySource src a s) := by
  have hgroup (wrapped : List (Fin 32)) (u : State) (g : Fin 8) : u.Follows (overflowCauseAt wrapped u g) := by
    unfold overflowCauseAt
    dsimp only
    split
    · exact captureCause_follows (by nofun) g u
    · exact .refl u
  have hcounted : s.Follows (noteLosses (s.losses src a) (countEvent src a s)) :=
    (Follows.mapCounters s _).trans (noteLosses_follows _ _)
  have hsent (u : State) (ks : List (Fin 32)) : u.Follows (u.sendOverflows ks) := .of_part rfl
  exact (hcounted.trans (.foldl (hgroup (s.wrappedBy src a)) groupIds _)).trans (hsent _ _)

/-- A tick at the Count Engine. -/
theorem takeEngineTick_follows (s : State) : s.Follows (takeEngineTick s) := by
  have hgroup (u : State) (g : Fin 8) : u.Follows (countdownAt u g) := by
    unfold countdownAt
    dsimp only
    split
    · split
      · exact (Follows.modifyGroup_quiet rfl).trans (captureCause_follows (by nofun) g _)
      · exact .modifyGroup_quiet rfl
    · exact .refl u
  exact (applySource_follows .tick 1 s).trans (.foldl hgroup groupIds _)

/-! ## The Snapshot Queue (R127 to R134) -/

/-- The views after an answer has been sent. -/
theorem sendAnswer_draftView (s : State) (k : AnswerKind) (g h : Fin 8) : (s.sendAnswer k g).draftView h =
    { s.draftView h with answers := (s.draftView h).answers ++ if g = h then [k] else [] } := by
  by_cases hh : g = h <;> simp [State.draftView, viewOf, hh]

/-- A notice is no part of the views. -/
theorem queueNotice_draftView (s : State) (m : Notice) (h : Fin 8) : (s.queueNotice m).draftView h = s.draftView h := rfl

/-- The views after the wait list has been replaced. -/
theorem withWaitList_draftView (s : State) (ds : List Draft) (h : Fin 8) : (s.withWaitList ds).draftView h =
    { s.draftView h with waiting := ds.countP fun d => decide (d.group = h) } := rfl

/-- The views after the draft path has been replaced. -/
theorem withDraftPath_draftView (s : State) (ms : List DraftMessage) (h : Fin 8) :
    State.draftView { s with paths := { s.paths with draftPath := ms } } h =
      { s.draftView h with path := ms.filterMap (DraftMessage.seenBy h) } := rfl

/-- The views after a placement, with the wait list replaced. -/
theorem placeDraft_draftView (d : Draft) (e : Option Epoch) (k : AnswerKind) (s : State) (h : Fin 8) :
    (placeDraft d e k s).draftView h =
      { s.draftView h with answers := (s.draftView h).answers ++ if d.group = h then [k] else [] } := by
  rw [← sendAnswer_draftView, placeDraft_frame]
  rfl

/-- The grant step over the drafts of a wait list. -/
theorem grant_follows : ∀ (ds : List Draft) (s : State), (s.withWaitList ds).Follows (grant ds s)
  | [], s => .refl _
  | d :: rest, s => by
    unfold grant
    split
    · refine Follows.trans (.at_group d.group ?_ (fun h hh => ?_) (fun h => ?_) ?_) (grant_follows rest _)
      · rw [withWaitList_draftView, withWaitList_draftView, placeDraft_draftView, if_pos rfl]
        exact .granted _ _ (by simp)
      · rw [withWaitList_draftView, withWaitList_draftView, placeDraft_draftView, if_neg (Ne.symm hh)]
        simp [Ne.symm hh]
      · rw [placeDraft_frame]
        rfl
      · rw [placeDraft_frame]
        rfl
    · exact .refl _

/-- The grant step. -/
theorem grantStep_follows (s : State) : s.Follows (grantStep s) := grant_follows s.queue.waitList s

/-- What the judgement of a draft can do: it is placed at once, joins the wait list, or is refused (R127). -/
theorem takeDraft_cases (d : Draft) (s : State) : takeDraft d s = placeDraft d none .taken s ∨
    takeDraft d s = joinWaitList d s ∨ takeDraft d s = dropDraft d s := by
  unfold takeDraft
  split
  · exact .inl rfl
  · split
    · exact .inr (.inl rfl)
    · exact .inr (.inr rfl)

/-- The views after a draft has joined the wait list. -/
theorem joinWaitList_draftView (d : Draft) (s : State) (h : Fin 8) : (joinWaitList d s).draftView h =
    { s.draftView h with
      waiting := (s.draftView h).waiting + if d.group = h then 1 else 0
      answers := (s.draftView h).answers ++ if d.group = h then [.waiting] else [] } := by
  rw [joinWaitList, queueNotice_draftView, sendAnswer_draftView, withWaitList_draftView]
  by_cases hh : d.group = h <;> simp [State.draftView, viewOf, hh]

/-- The views after a draft has been refused. -/
theorem dropDraft_draftView (d : Draft) (s : State) (h : Fin 8) : (dropDraft d s).draftView h =
    { s.draftView h with answers := (s.draftView h).answers ++ if d.group = h then [.refused] else [] } := by
  rw [dropDraft, queueNotice_draftView, sendAnswer_draftView]
  rfl

/-- A DRAFT taken off its path and judged (R127). -/
theorem takeDraft_follows {s : State} {d : Draft} {rest : List DraftMessage} (hpath : s.paths.draftPath = .draft d :: rest) :
    s.Follows (takeDraft d { s with paths := { s.paths with draftPath := rest } }) := by
  let p : State := { s with paths := { s.paths with draftPath := rest } }
  have hfirst : (s.draftView d.group).path = true :: rest.filterMap (DraftMessage.seenBy d.group) := by
    simp [State.draftView, viewOf, hpath, DraftMessage.seenBy]
  have hother (h : Fin 8) (hh : h ≠ d.group) : p.draftView h = s.draftView h := by
    have hnot : DraftMessage.seenBy h (.draft d) = none := by simp [DraftMessage.seenBy, Ne.symm hh]
    rw [withDraftPath_draftView]
    simp [State.draftView, viewOf, hpath, hnot]
  obtain hcase | hcase | hcase := takeDraft_cases d p
  · rw [hcase]
    refine .at_group d.group ?_ (fun h hh => ?_) (fun h => ?_) ?_
    · rw [placeDraft_draftView, withDraftPath_draftView, if_pos rfl]
      exact .decided _ _ .taken hfirst (.inl rfl)
    · rw [placeDraft_draftView, hother h hh, if_neg (Ne.symm hh), List.append_nil]
    · rw [placeDraft_frame]
      rfl
    · rw [placeDraft_frame]
  · rw [hcase]
    refine .at_group d.group ?_ (fun h hh => ?_) (fun _ => rfl) rfl
    · rw [joinWaitList_draftView, withDraftPath_draftView, if_pos rfl, if_pos rfl]
      exact .queued _ _ hfirst
    · rw [joinWaitList_draftView, hother h hh, if_neg (Ne.symm hh), if_neg (Ne.symm hh), List.append_nil]
      rfl
  · rw [hcase]
    refine .at_group d.group ?_ (fun h hh => ?_) (fun _ => rfl) rfl
    · rw [dropDraft_draftView, withDraftPath_draftView, if_pos rfl]
      exact .decided _ _ .refused hfirst (.inr rfl)
    · rw [dropDraft_draftView, hother h hh, if_neg (Ne.symm hh), List.append_nil]

/-- The waiting drafts of each group, with a draft of group Gg taken off the list. -/
theorem countP_eraseP_group {g : Fin 8} {ds : List Draft} (hw : (ds.any fun d => decide (d.group = g)) = true) (h : Fin 8) :
    (ds.countP fun d => decide (d.group = h)) =
      ((ds.eraseP fun d => decide (d.group = g)).countP fun d => decide (d.group = h)) + if g = h then 1 else 0 := by
  obtain ⟨d, hd, hdg⟩ := List.any_eq_true.mp hw
  obtain ⟨x, before, after, -, hx, hlist, herased⟩ :=
    List.exists_of_eraseP (p := fun d : Draft => decide (d.group = g)) hd hdg
  have hgroup : x.group = g := of_decide_eq_true hx
  rw [herased, hlist, List.countP_append, List.countP_append, List.countP_cons, hgroup]
  simp only [decide_eq_true_eq]
  omega

/-- The views after a waiting draft of group Gg has been abandoned. -/
theorem abandonDraft_draftView (g : Fin 8) (s : State) (h : Fin 8) : (abandonDraft g s).draftView h = { s.draftView h with
    waiting := (s.queue.waitList.eraseP fun d => decide (d.group = g)).countP fun d => decide (d.group = h)
    answers := (s.draftView h).answers ++ if g = h then [.abandoned] else [] } := by
  rw [abandonDraft, sendAnswer_draftView]
  rfl

/-- A WITHDRAW taken off its path, at the queue (R134). -/
theorem takeWithdraw_follows {s : State} {g : Fin 8} {rest : List DraftMessage}
    (hpath : s.paths.draftPath = .withdraw g :: rest) :
    s.Follows (takeWithdraw g { s with paths := { s.paths with draftPath := rest } }) := by
  let p : State := { s with paths := { s.paths with draftPath := rest } }
  have hfirst : (s.draftView g).path = false :: rest.filterMap (DraftMessage.seenBy g) := by
    simp [State.draftView, viewOf, hpath, DraftMessage.seenBy]
  have hother (h : Fin 8) (hh : h ≠ g) : p.draftView h = s.draftView h := by
    have hnot : DraftMessage.seenBy h (.withdraw g) = none := by simp [DraftMessage.seenBy, Ne.symm hh]
    rw [withDraftPath_draftView]
    simp [State.draftView, viewOf, hpath, hnot]
  unfold takeWithdraw
  split <;> rename_i hw
  · have habandon : s.Follows (abandonDraft g p) := by
      refine .at_group g ?_ (fun h hh => ?_) (fun _ => rfl) rfl
      · rw [abandonDraft_draftView, withDraftPath_draftView, if_pos rfl]
        exact .abandoned _ _ _ hfirst ((countP_eraseP_group hw g).trans (by rw [if_pos rfl]))
      · have hcount := countP_eraseP_group hw h
        rw [if_neg (Ne.symm hh), Nat.add_zero] at hcount
        rw [abandonDraft_draftView, ← hcount, hother h hh, if_neg (Ne.symm hh), List.append_nil]
        rfl
    exact habandon.trans (grantStep_follows _)
  · refine .at_group g ?_ hother (fun _ => rfl) rfl
    rw [withDraftPath_draftView]
    exact .ignored _ _ hfirst

/-- QUEUE RELEASE. -/
theorem queueRelease_follows (s : State) : s.Follows (queueRelease s).1 := by
  unfold queueRelease
  split
  · exact .refl s
  · rename_i r rest _
    have hreleased : s.Follows { s with queue := { s.queue with
        records := rest, valueUse := s.queue.valueUse - r.entries.length } } := .of_part rfl
    exact .accepted (hreleased.trans (grantStep_follows _))

/-- QUEUE FLUSH. -/
theorem queueFlush_follows (s : State) : s.Follows (queueFlush s).1 := by
  have hflushed : s.Follows { s with queue := { s.queue with records := [], valueUse := 0 } } := .of_part rfl
  exact .accepted (hflushed.trans (grantStep_follows _))

end Sys2Proof.Machine
end

section
/-! Every command follows the draft protocol and keeps the chain requests sound, and so does every step (R65, R74, R80, R100 to
R106, R109 to R115, R131, R145). -/

namespace Sys2Proof.Machine

open State (Follows)

/-- Where the answer is a next state, that state follows the protocol from `s`. -/
def State.FollowsBy (s : State) (o : Answered) : Prop := ∀ t : State, o = .next t → s.Follows t

/-! ## The shared forms of a row -/

section Forms

variable {s : State}

/-- A next state that follows the protocol. -/
theorem followsBy_next {t : State} (h : s.Follows t) : s.FollowsBy (.next t) := by
  rintro u hu
  cases hu
  exact h

/-- An event whose effect follows the protocol. -/
theorem followsBy_event {f : State → State} (h : s.Follows (f s)) : s.FollowsBy (event s f) := by
  intro t ht
  obtain ⟨-, rfl⟩ | ⟨-, rfl⟩ := event_cases ht
  · exact h
  · exact .refl _

/-- An event under a condition. -/
theorem followsBy_eventIf {p : Prop} [Decidable p] {f : State → State} (h : s.Follows (f s)) :
    s.FollowsBy (if p then event s f else .next s) := by
  split
  · exact followsBy_event h
  · exact followsBy_next (.refl s)

/-- A host access whose effect follows the protocol. -/
theorem followsBy_hostAccess {c : CyclePhase} {acc : Access} {mine : State → Bool} {effect : State → State}
    (h : ∀ u : State, u.Follows (effect u)) : s.FollowsBy (hostAccess c acc mine effect s) := by
  have hbus (u : State) (b : Bus) : u.Follows (u.withBus b) := .of_part rfl
  intro t ht
  obtain ⟨b, rfl⟩ | ⟨-, -, b, b', rfl⟩ := hostAccess_cases ht
  · exact hbus s b
  · exact (hbus s b).trans ((h _).trans (hbus _ b'))

/-- An owner's answer latched follows as the owner does. -/
theorem latchResult_follows {owner : State → State × ResultCode} (h : ∀ u : State, u.Follows (owner u).1) (u : State) :
    u.Follows (latchResult (owner u)) := (h u).trans (.of_part rfl)

/-- A command whose owner follows the protocol. -/
theorem followsBy_command {c : CyclePhase} {code op : BitVec 8} {owner : State → State × ResultCode}
    (h : ∀ u : State, u.Follows (owner u).1) : s.FollowsBy (command c code op owner s) :=
  followsBy_hostAccess (latchResult_follows h)

/-- A group command whose owner follows the protocol. -/
theorem followsBy_groupCommand {c : CyclePhase} {code : BitVec 8} {g : Fin 8} {owner : Fin 8 → State → State × ResultCode}
    (h : ∀ u : State, u.Follows (owner g u).1) : s.FollowsBy (groupCommand c code g owner s) :=
  followsBy_hostAccess (latchResult_follows h)

/-- A commit whose owner, whichever field is selected, follows the protocol. -/
theorem followsBy_tableWrite {c : CyclePhase} {w : Word}
    {owners : Option Selection → Option (Latch → State → State × ResultCode)}
    (h : ∀ sel f, owners sel = some f → ∀ (v : Latch) (u : State), u.Follows (f v u).1) :
    s.FollowsBy (tableWrite c w owners s) := by
  refine followsBy_hostAccess fun u => ?_
  unfold commitTo
  split <;> rename_i hf
  · have hcommit : u.Follows (u.beforeCommit w) := .of_part rfl
    exact hcommit.trans (latchResult_follows (fun x => h _ _ hf _ x) _)
  · exact .refl u

/-- The arrival of an answer: the message off its path, and what it makes of its group. -/
theorem followsBy_answerArrives {kind : AnswerKind} {f : Fin 8 → State → State}
    (h : ∀ (g : Fin 8) (rest : List Answer), s.paths.answers = ⟨kind, g⟩ :: rest →
      s.Follows (f g { s with paths := { s.paths with answers := rest } })) : s.FollowsBy (answerArrives kind f s) := by
  intro t ht
  obtain rfl | ⟨-, g, rest, hanswers, rfl⟩ := answerArrives_cases ht
  · exact .refl _
  · exact h g rest hanswers

end Forms

/-! ## Blocks outside the protocol: the Timebase, the Line Inputs, the Tally Receiver, the Event Controller -/

section Outside

variable (s : State)

/-- TIMEBASE START. -/
theorem timebaseStart_follows : s.Follows (timebaseStart s).1 := by
  unfold timebaseStart
  split <;> exact .of_part rfl

/-- TIMEBASE STOP. -/
theorem timebaseStop_follows : s.Follows (timebaseStop s).1 := by
  unfold timebaseStop
  split <;> exact .of_part rfl

/-- A commit to the period code. -/
theorem writePeriodCode_follows (v : Latch) : s.Follows (writePeriodCode v s).1 := by
  unfold writePeriodCode
  split <;> exact .of_part rfl

/-- A commit to the epoch. -/
theorem writeEpoch_follows (v : Latch) : s.Follows (writeEpoch v s).1 := by
  unfold writeEpoch
  split <;> exact .of_part rfl

/-- A recognised change of level. -/
theorem changeLine_follows (n : Fin 16) : s.Follows (changeLine n s) := by
  rw [changeLine_eq]
  exact .of_part rfl

/-- A commit to a line record. -/
theorem writeLine_follows (n : Fin 16) (f : LineField) (v : Latch) : s.Follows (writeLine n f v s).1 := by
  cases f with
  | enabled =>
    simp only [writeLine]
    split <;> exact .of_part rfl
  | edge =>
    simp only [writeLine]
    split <;> exact .of_part rfl
  | level => exact .refl s

/-- A complete frame. -/
theorem judgeFrame_follows (f : BitVec 32) : s.Follows (judgeFrame f s) := by
  have hgood (x : Frame) : s.Follows (goodFrame x s) := by
    cases he : (s.agent x.agent).enabled with
    | false =>
      rw [goodFrame_disabled he]
      exact .of_part rfl
    | true =>
      obtain ⟨missed, notices, hgood⟩ := goodFrame_accepts he
      rw [hgood]
      exact .of_part rfl
  unfold judgeFrame
  split
  · exact .of_part rfl
  · split
    · exact hgood _
    · exact .of_part rfl

/-- A rising edge of TCLK. -/
theorem takeBit_follows (bit : Bool) : s.Follows (takeBit bit s) := by
  have hwait : s.Follows ((s.withQuiet false).withReception .wait) := .of_part rfl
  unfold takeBit
  dsimp only
  split
  · exact .of_part rfl
  · exact .of_part rfl
  · split <;> exact .of_part rfl
  · split
    · exact .of_part rfl
    · exact hwait.trans (judgeFrame_follows _ _)

/-- The expiry of the quiet measurement. -/
theorem expireQuiet_follows : s.Follows (expireQuiet s) := by
  unfold expireQuiet
  dsimp only
  split <;> exact .of_part rfl

/-- A visit of agents. -/
theorem updateAgents_follows (l : List (Fin 8)) (f : Agent → Agent) (down told : Agent → Bool) :
    s.Follows (s.updateAgents l f down told) := .of_part (by simp only [State.protocolPart, State.updateAgents])

/-- A tick at the receiver. -/
theorem takeReceiverTick_follows : s.Follows (takeReceiverTick (popReceiverTick s)) := by
  have hpop : s.Follows (popReceiverTick s) := .of_part rfl
  rw [takeReceiverTick_eq]
  exact hpop.trans (updateAgents_follows _ _ _ _ _)

/-- LINK RESTART. -/
theorem linkRestart_follows : s.Follows (linkRestart s).1 := by
  rw [linkRestart_eq]
  exact .accepted (updateAgents_follows s _ _ _ _)

/-- LINK CLEAR COUNTS. -/
theorem linkClearCounts_follows : s.Follows (linkClearCounts s).1 :=
  .accepted (.of_part (by simp only [State.protocolPart, State.mapAgents]))

/-- A commit to the receiver record. -/
theorem writeReceiver_follows (f : ReceiverField) (v : Latch) : s.Follows (writeReceiver f v s).1 := by
  cases f with
  | enabled =>
    simp only [writeReceiver]
    split
    · exact .refl s
    · split
      · exact .refl s
      · split <;> exact .of_part rfl
  | checkErrors | framingErrors | unexpected => exact .refl s

/-- A commit to an agent's enabled field. -/
theorem writeAgentEnabled_follows (a : Fin 8) (v : Latch) : s.Follows (writeAgentEnabled a v s).1 := by
  unfold writeAgentEnabled
  split
  · exact .refl s
  · split
    · exact .refl s
    · split
      · exact .of_part rfl
      · rw [disableAgent_eq]
        exact .of_part rfl

/-- A commit to a silence limit. -/
theorem writeSilenceLimit_follows (a : Fin 8) (v : Latch) : s.Follows (writeSilenceLimit a v s).1 := by
  unfold writeSilenceLimit
  split <;> exact .of_part rfl

/-- A read of the window. -/
theorem readWindow_follows (offset : BitVec 6) : s.Follows (readWindow offset s) := by
  unfold readWindow
  split <;> exact .of_part rfl

/-- A write of WATERMARK. -/
theorem writeWatermark_follows (w : Word) : s.Follows (writeWatermark w s).1 := by
  unfold writeWatermark
  split <;> exact .of_part rfl

/-- An owner that refuses every value. -/
theorem refuse_follows (r : ResultCode) : s.Follows (refuse r s).1 := .refl s

end Outside

/-! ## Writes of the counter and group records -/

section Records

variable {s : State}

/-- A value that a field takes, or RANGE: what the acceptance does. -/
theorem orRange_follows {α : Type} {v : Option α} {f : α → State → State × ResultCode}
    (h : ∀ x, v = some x → s.Follows (f x s).1) : s.Follows (orRange v f s).1 := by
  unfold orRange
  split
  · exact .refl s
  · exact h _ rfl

/-- A change of one counter. -/
theorem modifyCounter_follows (k : Fin 32) (f : Counter → Counter) : s.Follows (s.modifyCounter k f) := .of_part rfl

/-- A commit to a configuration field of a counter. -/
theorem writeCounter_follows (k : Fin 32) (f : CounterField) (v : Latch) : s.Follows (writeCounter k f v s).1 := by
  have hconfig {α : Type} (v : Option α) (f : α → Counter → Counter) : s.Follows (configWrite k v f s).1 := by
    obtain h | ⟨x, -, h⟩ := configWrite_cases k v f s
    · rw [h]
      exact .refl s
    · rw [h]
      exact modifyCounter_follows k _
  cases f with
  | enabled | source | mode | bandLow | bandHigh | overflowCapture => exact hconfig _ _
  | group | value | preset | inside | wrapped | stale => exact .refl s

/-- A commit to a counter's group field. -/
theorem writeMembership_follows (k : Fin 32) (v : Latch) : s.Follows (writeMembership k v s).1 := by
  unfold writeMembership
  dsimp only
  split
  · refine orRange_follows fun n _ => ?_
    split
    · exact .refl s
    · exact .accepted (modifyCounter_follows k _)
  · exact .refl s

/-- A commit to a counter's value or preset. -/
theorem writeContents_follows (k : Fin 32) (v : Latch) (f : Tally → Counter → Counter) :
    s.Follows (writeContents k v f s).1 := by
  unfold writeContents
  split
  · exact orRange_follows fun x _ => .accepted (modifyCounter_follows k _)
  · exact .refl s

/-- A commit to a configuration field of a group that leaves its chain next. -/
theorem groupConfigWrite_follows {α : Type} {g : Fin 8} (v : Option α) {f : α → Group → Group}
    (hf : ∀ x, (f x (s.group g)).service = (s.group g).service) : s.Follows (groupConfigWrite g v f s).1 := by
  unfold groupConfigWrite
  split
  · exact orRange_follows fun x _ => .accepted (.modifyGroup_quiet (hf x))
  · exact .refl s

/-- A commit to a group's chain next: it is END or another group (R80). -/
theorem writeChainNext_follows (g : Fin 8) (v : Latch) : s.Follows (writeGroup g .chainNext v s).1 := by
  simp only [writeGroup, groupConfigWrite]
  split
  · refine orRange_follows fun n hn => .accepted ⟨fun h => ?_, fun hs => ⟨fun h => ?_, hs.2⟩⟩
    · by_cases hh : h = g
      · subst hh
        rw [modifyGroup_draftView_same]
        exact .refl
      · rw [modifyGroup_draftView_other _ _ hh]
    · rw [State.modifyGroup_group]
      split <;> rename_i hh
      · subst hh
        exact chainNextFor_ne hn
      · exact hs.1 h
  · exact .refl s

/-- A commit to a field of a group. -/
theorem writeGroup_follows (g : Fin 8) (f : GroupField) (v : Latch) : s.Follows (writeGroup g f v s).1 := by
  cases f with
  | policy | holdAfter | reloadAfter | period => exact groupConfigWrite_follows _ fun _ => rfl
  | chainNext => exact writeChainNext_follows g v
  | state | returnState | members | countdown | outstanding | missed | lost | placed | dropped | abandoned => exact .refl s

end Records

/-! ## Resets -/

/-- A state whose blocks and paths are at their reset values. -/
theorem reset_follows (s : State) {t : State} (ht : t.protocolPart = State.reset.protocolPart) : s.Follows t := by
  have hreset : s.Follows State.reset := by
    refine ⟨fun g => ?_, fun _ => reset_chainsSound⟩
    have hview : State.reset.draftView g =
        { state := .idle, outstanding := false, path := [], waiting := 0, answers := [] } := by
      rw [State.draftView, reset_group]
      rfl
    rw [hview]
    exact .single (.reset _)
  exact hreset.trans (.of_part ht)

/-- Every block at its reset values, and no message on its way. -/
theorem resetBlocks_follows (s : State) : s.Follows (resetBlocks s) :=
  reset_follows s (by simp only [State.protocolPart, resetBlocks, State.reset])

/-- The part held in reset. -/
theorem holdInReset_follows (s : State) : s.Follows (holdInReset s) := (resetBlocks_follows s).trans (.of_part rfl)

/-- The first levels of the lines are no part of the protocol. -/
theorem firstLevels_follows (s : State) (levels : Word) : s.Follows (s.firstLevels levels) :=
  .of_service (fun g => congrArg _ (s.firstLevels_group levels g)) (by rw [s.firstLevels_paths]) (by rw [s.firstLevels_queue])
    (by rw [s.firstLevels_paths]) (by rw [s.firstLevels_paths])

/-- RESET_RECOVERY_END. -/
theorem execResetRecoveryEnd_follows (c : RecoveryPhase) (s : State) : s.FollowsBy (execResetRecoveryEnd c s) := by
  have hbegin : s.Follows (beginRecovery s) := .of_part rfl
  have hend (levels : Word) : s.Follows (endRecovery levels s) := by
    have hruns : s.Follows { s with mode := .running, bus := s.bus.passOn } := .of_part rfl
    exact hruns.trans (firstLevels_follows _ levels)
  unfold execResetRecoveryEnd
  split
  · exact followsBy_next hbegin
  · exact followsBy_next (hend _)
  · exact followsBy_next (.refl s)

/-! ## Rows that look at the front of a path, at the mode or at the state -/

section Arrivals

variable (s : State)

/-- INTERVAL_EXPIRY. -/
theorem execIntervalExpiry_follows : s.FollowsBy (execIntervalExpiry s) := by
  have hexpire : s.Follows (expireInterval s) := .of_part rfl
  unfold execIntervalExpiry
  split
  · exact followsBy_next (.refl s)
  · exact followsBy_event hexpire

/-- SOURCE_EVENT. -/
theorem execSourceEvent_follows (path : SourcePath) : s.FollowsBy (execSourceEvent path s) := by
  have hfront {src : Source} {a : Amount} {t : State} (h : frontSource path s = some (src, a, t)) : s.Follows t := by
    cases path <;>
    · simp only [frontSource] at h
      split at h <;> cases h
      exact .of_part rfl
  unfold execSourceEvent
  split <;> rename_i hf
  · exact followsBy_next (.refl s)
  · exact followsBy_event ((hfront hf).trans (applySource_follows _ _ _))

/-- A tick taken off the path to the Count Engine. -/
theorem engineTick_follows : s.Follows (takeEngineTick (popEngineTick s)) := by
  have hpop : s.Follows (popEngineTick s) := .of_part rfl
  exact hpop.trans (takeEngineTick_follows _)

/-- ENGINE_TICK. -/
theorem execEngineTick_follows : s.FollowsBy (execEngineTick s) := by
  unfold execEngineTick
  split
  · exact followsBy_next (.refl s)
  · exact followsBy_event (engineTick_follows s)

/-- RECEIVER_TICK. -/
theorem execReceiverTick_follows : s.FollowsBy (execReceiverTick s) := by
  unfold execReceiverTick
  split
  · exact followsBy_next (.refl s)
  · exact followsBy_event (takeReceiverTick_follows s)

/-- OVERFLOW_EVENT. -/
theorem execOverflowEvent_follows : s.FollowsBy (execOverflowEvent s) := by
  unfold execOverflowEvent
  split
  · exact followsBy_next (.refl s)
  · rename_i k rest _
    have hpop : s.Follows { s with paths := { s.paths with overflows := rest } } := .of_part rfl
    exact followsBy_event (hpop.trans (applySource_follows _ _ _))

/-- PLACED_EVENT. -/
theorem execPlacedEvent_follows : s.FollowsBy (execPlacedEvent s) := by
  unfold execPlacedEvent
  split
  · exact followsBy_next (.refl s)
  · rename_i g rest _
    have hpop : s.Follows { s with paths := { s.paths with placements := rest } } := .of_part rfl
    exact followsBy_event (hpop.trans (applySource_follows _ _ _))

/-- AGENT_DOWN. -/
theorem execAgentDown_follows : s.FollowsBy (execAgentDown s) := by
  unfold execAgentDown
  split
  · rename_i a rest _
    have hpop : s.Follows { s with paths := { s.paths with linkToEngine := rest } } := .of_part rfl
    exact followsBy_event (hpop.trans (.mapCounters _ _))
  · exact followsBy_next (.refl s)

/-- CHAIN_REQUEST. -/
theorem execChainRequest_follows : s.FollowsBy (execChainRequest s) := by
  unfold execChainRequest
  split <;> rename_i hr
  · exact followsBy_next (.refl s)
  · exact followsBy_event (takeChainRequest_follows hr)

/-- DRAFT. -/
theorem execDraft_follows : s.FollowsBy (execDraft s) := by
  unfold execDraft
  split <;> rename_i hd
  · exact followsBy_event (takeDraft_follows hd)
  · exact followsBy_next (.refl s)

/-- WITHDRAW. -/
theorem execWithdraw_follows : s.FollowsBy (execWithdraw s) := by
  unfold execWithdraw
  split <;> rename_i hd
  · exact followsBy_event (takeWithdraw_follows hd)
  · exact followsBy_next (.refl s)

/-- A notice taken off its path. -/
theorem frontNotice_follows {s t : State} {r : Reporter} {m : Notice} (h : frontNotice r s = some (m, t)) : s.Follows t := by
  cases r <;>
  · simp only [frontNotice] at h
    split at h <;> cases h
    exact .of_part rfl

/-- ERROR_REPORT. -/
theorem execErrorReport_follows (r : Reporter) : s.FollowsBy (execErrorReport r s) := by
  unfold execErrorReport
  split <;> rename_i hf
  · exact followsBy_event ((frontNotice_follows hf).trans (.of_part rfl))
  · exact followsBy_next (.refl s)

/-- STATUS_EVENT. -/
theorem execStatusEvent_follows (r : Reporter) : s.FollowsBy (execStatusEvent r s) := by
  unfold execStatusEvent
  split <;> rename_i hf
  · exact followsBy_event ((frontNotice_follows hf).trans (.of_part rfl))
  · exact followsBy_next (.refl s)

/-- BUS_CYCLE_END. -/
theorem execBusCycleEnd_follows (csHigh : Bool) : s.FollowsBy (execBusCycleEnd csHigh s) := by
  unfold execBusCycleEnd
  split <;> exact followsBy_next (.of_part rfl)

end Arrivals

/-! ## Commits, by the field selected -/

section Commits

variable (c : CyclePhase) (w : Word) (s : State)

/-- PERIOD_CODE_WRITE. -/
theorem execPeriodCodeWrite_follows : s.FollowsBy (execPeriodCodeWrite c w s) :=
  followsBy_tableWrite fun _ f hf => by
    split at hf <;> cases hf
    exact fun v u => writePeriodCode_follows u v

/-- EPOCH_WRITE. -/
theorem execEpochWrite_follows : s.FollowsBy (execEpochWrite c w s) :=
  followsBy_tableWrite fun _ f hf => by
    split at hf <;> cases hf
    exact fun v u => writeEpoch_follows u v

/-- LINE_FIELD_WRITE. -/
theorem execLineFieldWrite_follows : s.FollowsBy (execLineFieldWrite c w s) :=
  followsBy_tableWrite fun _ f hf => by
    split at hf <;> cases hf
    exact fun v u => writeLine_follows u _ _ v

/-- RECEIVER_ENABLED_WRITE. -/
theorem execReceiverEnabledWrite_follows : s.FollowsBy (execReceiverEnabledWrite c w s) :=
  followsBy_tableWrite fun _ f hf => by
    split at hf <;> cases hf
    exact fun v u => writeReceiver_follows u _ v

/-- AGENT_ENABLED_WRITE. -/
theorem execAgentEnabledWrite_follows : s.FollowsBy (execAgentEnabledWrite c w s) :=
  followsBy_tableWrite fun _ f hf => by
    split at hf <;> cases hf
    exact fun v u => writeAgentEnabled_follows u _ v

/-- SILENCE_LIMIT_WRITE. -/
theorem execSilenceLimitWrite_follows : s.FollowsBy (execSilenceLimitWrite c w s) :=
  followsBy_tableWrite fun _ f hf => by
    split at hf <;> cases hf
    exact fun v u => writeSilenceLimit_follows u _ v

/-- COUNTER_FIELD_WRITE. -/
theorem execCounterFieldWrite_follows : s.FollowsBy (execCounterFieldWrite c w s) :=
  followsBy_tableWrite fun _ f hf => by
    split at hf
    · split at hf <;> cases hf
      exact fun v u => writeCounter_follows _ _ v
    · cases hf

/-- COUNTER_GROUP_WRITE. -/
theorem execCounterGroupWrite_follows : s.FollowsBy (execCounterGroupWrite c w s) :=
  followsBy_tableWrite fun _ f hf => by
    split at hf <;> cases hf
    exact fun v u => writeMembership_follows _ v

/-- VALUE_PRESET_WRITE. -/
theorem execValuePresetWrite_follows : s.FollowsBy (execValuePresetWrite c w s) :=
  followsBy_tableWrite fun _ f hf => by
    split at hf <;> cases hf <;> exact fun v u => writeContents_follows _ v _

/-- GROUP_FIELD_WRITE. -/
theorem execGroupFieldWrite_follows : s.FollowsBy (execGroupFieldWrite c w s) :=
  followsBy_tableWrite fun _ f hf => by
    split at hf <;> cases hf
    exact fun v u => writeGroup_follows _ _ v

/-- READ_ONLY_TABLE_WRITE. -/
theorem execReadOnlyTableWrite_follows : s.FollowsBy (execReadOnlyTableWrite c w s) :=
  followsBy_tableWrite fun _ f hf => by
    split at hf <;> cases hf <;> exact fun _ u => refuse_follows u _

/-- TABLE_COMMIT_RANGE. -/
theorem execTableCommitRange_follows : s.FollowsBy (execTableCommitRange c w s) :=
  followsBy_tableWrite fun _ f hf => by
    split at hf <;> cases hf
    exact fun _ u => refuse_follows u _

/-- READONLY_FIELD_WRITE. -/
theorem execReadonlyFieldWrite_follows : s.FollowsBy (execReadonlyFieldWrite c w s) :=
  followsBy_tableWrite fun _ f hf => by
    split at hf
    · split at hf <;> cases hf
      exact fun _ u => refuse_follows u _
    · cases hf
      exact fun _ u => refuse_follows u _
    · cases hf

end Commits

/-! ## Every command -/

/-- Every command follows the protocol. -/
theorem exec_follows (i : Instr) (s : State) : s.FollowsBy (exec i s) := by
  cases i with
  | intervalExpiry => exact execIntervalExpiry_follows s
  | timebaseStart c op => exact followsBy_command timebaseStart_follows
  | timebaseStop c op => exact followsBy_command timebaseStop_follows
  | periodCodeWrite c w => exact execPeriodCodeWrite_follows c w s
  | epochWrite c w => exact execEpochWrite_follows c w s
  | lineChange n => exact followsBy_event (changeLine_follows s n)
  | lineFieldWrite c w => exact execLineFieldWrite_follows c w s
  | frameComplete bit =>
    rw [exec, execFrameComplete]
    exact followsBy_eventIf (takeBit_follows s bit)
  | quietTimeExpiry => exact followsBy_event (expireQuiet_follows s)
  | receiverTick => exact execReceiverTick_follows s
  | agentLost a =>
    rw [exec, execAgentLost]
    exact followsBy_eventIf (takeReceiverTick_follows s)
  | receiverEnabledWrite c w => exact execReceiverEnabledWrite_follows c w s
  | agentEnabledWrite c w => exact execAgentEnabledWrite_follows c w s
  | silenceLimitWrite c w => exact execSilenceLimitWrite_follows c w s
  | linkRestart c op => exact followsBy_command linkRestart_follows
  | linkClearCounts c op => exact followsBy_command linkClearCounts_follows
  | sourceEvent path => exact execSourceEvent_follows s path
  | engineTick => exact execEngineTick_follows s
  | periodicCause g =>
    rw [exec, execPeriodicCause]
    exact followsBy_eventIf (engineTick_follows s)
  | overflowEvent => exact execOverflowEvent_follows s
  | placedEvent => exact execPlacedEvent_follows s
  | agentDown => exact execAgentDown_follows s
  | groupStart c g => exact followsBy_groupCommand (groupStart_follows g)
  | groupHold c g => exact followsBy_groupCommand (groupHold_follows g)
  | groupResume c g => exact followsBy_groupCommand (groupResume_follows g)
  | groupStop c g => exact followsBy_groupCommand (groupStop_follows g)
  | groupCapture c g => exact followsBy_groupCommand (groupCapture_follows g)
  | groupClear c g => exact followsBy_groupCommand (groupClear_follows g)
  | groupReload c g => exact followsBy_groupCommand (groupReload_follows g)
  | countingReset c op => exact followsBy_command countingReset_follows
  | chainRequest => exact execChainRequest_follows s
  | answerTaken =>
    rw [exec, execTaken]
    exact followsBy_answerArrives fun _ _ h => (clearOutstanding_follows h (.inl rfl)).trans (.of_part rfl)
  | answerWaiting =>
    rw [exec, execWaiting]
    exact followsBy_answerArrives fun _ _ h => stall_follows h
  | answerRefused => exact followsBy_answerArrives fun _ _ h => clearOutstanding_follows h (.inr (.inl rfl))
  | answerPlaced =>
    rw [exec, execPlaced]
    exact followsBy_answerArrives fun _ _ h => (unstall_follows h).trans (.of_part rfl)
  | answerAbandoned => exact followsBy_answerArrives fun _ _ h => clearOutstanding_follows h (.inr (.inr rfl))
  | counterFieldWrite c w => exact execCounterFieldWrite_follows c w s
  | counterGroupWrite c w => exact execCounterGroupWrite_follows c w s
  | valuePresetWrite c w => exact execValuePresetWrite_follows c w s
  | groupFieldWrite c w => exact execGroupFieldWrite_follows c w s
  | draft => exact execDraft_follows s
  | withdraw => exact execWithdraw_follows s
  | queueRelease c op => exact followsBy_command queueRelease_follows
  | queueFlush c op => exact followsBy_command queueFlush_follows
  | watermarkWrite c w =>
    rw [exec, execWatermarkWrite]
    exact followsBy_hostAccess (latchResult_follows fun u => writeWatermark_follows u w)
  | errorReport r => exact execErrorReport_follows s r
  | statusEvent r => exact execStatusEvent_follows s r
  | irqstatWrite c w =>
    rw [exec, execIrqstatWrite]
    exact followsBy_hostAccess fun _ => .of_part rfl
  | irqenWrite c w =>
    rw [exec, execIrqenWrite]
    exact followsBy_hostAccess fun _ => .of_part rfl
  | tableFetch c offset =>
    rw [exec, execTableFetch]
    exact followsBy_hostAccess fun u => readWindow_follows u offset
  | readOnlyTableWrite c w => exact execReadOnlyTableWrite_follows c w s
  | unknownCommand c w =>
    rw [exec, execUnknownCommand]
    exact followsBy_hostAccess fun _ => .of_part rfl
  | registerWrite c offset w =>
    rw [exec, execRegisterWrite]
    exact followsBy_hostAccess fun _ => .of_part rfl
  | bothStrobesLow =>
    rw [exec, execBothStrobesLow]
    exact followsBy_event (.of_part rfl)
  | busCycleEnd csHigh => exact execBusCycleEnd_follows s csHigh
  | heldCyclePassedOn =>
    rw [exec, execHeldCyclePassedOn]
    exact followsBy_event (.of_part rfl)
  | deviceReset c op levels =>
    rw [exec, execDeviceReset]
    exact followsBy_hostAccess fun u => (resetBlocks_follows u).trans (firstLevels_follows _ levels)
  | resetnAsserted => exact followsBy_next (holdInReset_follows s)
  | resetRecoveryEnd c => exact execResetRecoveryEnd_follows c s
  | powerUp => exact followsBy_next (holdInReset_follows s)
  | tclkRisingEdge bit => exact followsBy_event (takeBit_follows s bit)
  | tableCommitRange c w => exact execTableCommitRange_follows c w s
  | groupOperandRange c w =>
    rw [exec, execGroupOperandRange]
    exact followsBy_hostAccess fun _ => .of_part rfl
  | readonlyFieldWrite c w => exact execReadonlyFieldWrite_follows c w s

/-- Every step follows the protocol. -/
theorem step_follows {s t : State} (h : step s = .next t) : s.Follows t := by
  obtain rfl | ⟨c, rest, -, h⟩ := step_cases h
  · exact .refl _
  · have hqueue : s.Follows { s with pending := rest } := .of_part rfl
    exact hqueue.trans (exec_follows c _ t h)

/-- Settles O56: every step changes each group's view by changes that keep its protocol. -/
theorem draftProtocolIsKept : Obligations.DraftProtocolIsKept := fun _ _ hs h => (step_follows h).protocolSound hs

/-- Settles O57: every step leaves chain next another group's or END, and sends sound chain requests alone. -/
theorem chainRequestsStaySound : Obligations.ChainRequestsStaySound := fun _ _ hs h => (step_follows h).chains hs

end Sys2Proof.Machine
end

section
/-! The group commands: what the Count Engine answers to each in each state, and the statements on them (R67 to R72, R101). -/

namespace Sys2Proof.Machine

/-- A group command taken by an owner that answers `r`: the owner's state, with the answer (R66, R163). -/
theorem groupCommand_answers {s t : State} {c : CyclePhase} {code : BitVec 8} {g : Fin 8}
    {owner : Fin 8 → State → State × ResultCode} {r : ResultCode}
    (h : s.takes c (.write 0x04 (groupWord code g)) = true) (j : JudgedAs (owner g) s t r) :
    groupCommand c code g owner s = .next (t.answered c r) := by
  have hj : owner g s = ({ t with host := s.host, bus := s.bus }, r) := j.judges s.host s.bus
  rw [groupCommand_takes h (j.busFree s.host), hj, ← State.busAfter_congr j.bus, ← j.host]
  rfl

/-- A change of a group's members looks neither at the Host Port nor at the bus. -/
theorem mapMembers_withHost (s : State) (g : Fin 8) (f : Counter → Counter) (h : HostPort) (b : Bus) :
    State.mapMembers { s with host := h, bus := b } g f = { s.mapMembers g f with host := h, bus := b } := by
  simp only [State.mapMembers, State.mapCounters]

/-- An owner that ends with a change of a group's members. -/
theorem JudgedAs.of_mapMembers {owner : State → State × ResultCode} {s u : State} {g : Fin 8} {f : Counter → Counter}
    {r : ResultCode} (hhost : u.host = s.host) (hbus : u.bus = s.bus)
    (hj : ∀ (h : HostPort) (b : Bus),
      owner { s with host := h, bus := b } = (State.mapMembers { u with host := h, bus := b } g f, r)) :
    JudgedAs owner s (u.mapMembers g f) r where
  host := (u.mapMembers_host g f).trans hhost
  bus := (u.mapMembers_bus g f).trans hbus
  judges h b := (hj h b).trans (by rw [mapMembers_withHost])

/-! ## The rows -/

section Rows

variable {s t : State} {c : CyclePhase} {g : Fin 8} {r : ResultCode}

/-- GROUP_START is the owner's answer to START. -/
theorem groupStart_answers (h : s.takes c (.write 0x04 (groupWord 0x01 g)) = true) (j : JudgedAs (groupStart g) s t r) :
    exec (.groupStart c g) s = .next (t.answered c r) := groupCommand_answers h j

/-- GROUP_HOLD is the owner's answer to HOLD. -/
theorem groupHold_answers (h : s.takes c (.write 0x04 (groupWord 0x02 g)) = true) (j : JudgedAs (groupHold g) s t r) :
    exec (.groupHold c g) s = .next (t.answered c r) := groupCommand_answers h j

/-- GROUP_RESUME is the owner's answer to RESUME. -/
theorem groupResume_answers (h : s.takes c (.write 0x04 (groupWord 0x03 g)) = true) (j : JudgedAs (groupResume g) s t r) :
    exec (.groupResume c g) s = .next (t.answered c r) := groupCommand_answers h j

/-- GROUP_STOP is the owner's answer to STOP. -/
theorem groupStop_answers (h : s.takes c (.write 0x04 (groupWord 0x04 g)) = true) (j : JudgedAs (groupStop g) s t r) :
    exec (.groupStop c g) s = .next (t.answered c r) := groupCommand_answers h j

/-- GROUP_CLEAR is the owner's answer to CLEAR. -/
theorem groupClear_answers (h : s.takes c (.write 0x04 (groupWord 0x06 g)) = true) (j : JudgedAs (groupClear g) s t r) :
    exec (.groupClear c g) s = .next (t.answered c r) := groupCommand_answers h j

/-- GROUP_RELOAD is the owner's answer to RELOAD. -/
theorem groupReload_answers (h : s.takes c (.write 0x04 (groupWord 0x07 g)) = true) (j : JudgedAs (groupReload g) s t r) :
    exec (.groupReload c g) s = .next (t.answered c r) := groupCommand_answers h j

end Rows

/-! ## START (R67) -/

section Start

variable {g : Fin 8} {s : State}

/-- The group records after an accepted START. -/
def State.startGroup (s : State) (g : Fin 8) : State :=
  s.modifyGroup g fun x => { x with state := .running, countdown := x.period }

/-- START out of IDLE. -/
theorem groupStart_inService (h : (s.group g).state ≠ .idle) : groupStart g s = (s, .state) := by
  unfold groupStart
  split <;> rename_i hs
  · exact absurd hs h
  · rfl

/-- START in IDLE while a draft is outstanding. -/
theorem groupStart_busy (h : (s.group g).state = .idle) (ho : (s.group g).outstanding = true) :
    groupStart g s = (s, .busy) := by
  simp only [groupStart, h, ho, if_true, refuse]

/-- START in IDLE with no draft outstanding. -/
theorem groupStart_starts (h : (s.group g).state = .idle) (ho : (s.group g).outstanding = false) :
    groupStart g s = ((s.startGroup g).mapMembers g fun c => { c with inside := false }, .ok) := by
  simp only [groupStart, h, ho, Bool.false_eq_true, if_false, accept, State.startGroup]

end Start

/-- Settles O30: the owner's three answers, and the records that an accepted START leaves. -/
theorem groupStartJudged : Obligations.GroupStartJudged := by
  intro c g s ht
  refine ⟨fun h => groupStart_answers ht ⟨rfl, rfl, fun _ _ => groupStart_inService h⟩,
    fun h ho => groupStart_answers ht ⟨rfl, rfl, fun _ _ => groupStart_busy h ho⟩, fun h ho => ?_⟩
  have hstarts : JudgedAs (groupStart g) s ((s.startGroup g).mapMembers g fun c => { c with inside := false }) .ok :=
    .of_mapMembers rfl rfl fun _ _ => groupStart_starts h ho
  refine ⟨_, groupStart_answers ht hstarts, ?_, fun j => ?_, fun k => ?_⟩
  · simp only [State.mapMembers, State.mapCounters, State.startGroup, State.modifyGroup]
  · rw [State.mapMembers_group, State.startGroup, State.modifyGroup_group]
  · rw [State.mapMembers_counter]
    simp only [Counter.isMember_iff]
    rfl

/-! ## HOLD and RESUME (R68, R69) -/

section Hold

variable {g : Fin 8} {s : State}

/-- HOLD in IDLE. -/
theorem groupHold_idle (h : (s.group g).state = .idle) : groupHold g s = (s, .state) := by
  simp only [groupHold, h, refuse]

/-- HOLD in RUNNING. -/
theorem groupHold_running (h : (s.group g).state = .running) :
    groupHold g s = (s.modifyGroup g fun x => { x with state := .held }, .ok) := by
  simp only [groupHold, h, accept]

/-- HOLD in HELD. -/
theorem groupHold_held (h : (s.group g).state = .held) : groupHold g s = (s, .ok) := by
  simp only [groupHold, h, accept]

/-- HOLD in STALLED. -/
theorem groupHold_stalled {back : ReturnState} (h : (s.group g).state = .stalled back) :
    groupHold g s = (s.modifyGroup g fun x => { x with state := .stalled .held }, .ok) := by
  simp only [groupHold, h, accept]

/-- RESUME in IDLE. -/
theorem groupResume_idle (h : (s.group g).state = .idle) : groupResume g s = (s, .state) := by
  simp only [groupResume, h, refuse]

/-- RESUME in RUNNING. -/
theorem groupResume_running (h : (s.group g).state = .running) : groupResume g s = (s, .ok) := by
  simp only [groupResume, h, accept]

/-- RESUME in HELD. -/
theorem groupResume_held (h : (s.group g).state = .held) :
    groupResume g s = (s.modifyGroup g fun x => { x with state := .running }, .ok) := by
  simp only [groupResume, h, accept]

/-- RESUME in STALLED. -/
theorem groupResume_stalled {back : ReturnState} (h : (s.group g).state = .stalled back) :
    groupResume g s = (s.modifyGroup g fun x => { x with state := .stalled .running }, .ok) := by
  simp only [groupResume, h, accept]

end Hold

/-- Settles O31: the owner's answers to both commands in each state. -/
theorem groupHoldAndResume : Obligations.GroupHoldAndResume :=
  ⟨fun _ _ _ ht =>
    ⟨fun h => groupHold_answers ht ⟨rfl, rfl, fun _ _ => groupHold_running h⟩,
     fun h => groupHold_answers ht ⟨rfl, rfl, fun _ _ => groupHold_held h⟩,
     fun _ h => groupHold_answers ht ⟨rfl, rfl, fun _ _ => groupHold_stalled h⟩,
     fun h => groupHold_answers ht ⟨rfl, rfl, fun _ _ => groupHold_idle h⟩⟩,
   fun _ _ _ ht =>
    ⟨fun h => groupResume_answers ht ⟨rfl, rfl, fun _ _ => groupResume_held h⟩,
     fun h => groupResume_answers ht ⟨rfl, rfl, fun _ _ => groupResume_running h⟩,
     fun _ h => groupResume_answers ht ⟨rfl, rfl, fun _ _ => groupResume_stalled h⟩,
     fun h => groupResume_answers ht ⟨rfl, rfl, fun _ _ => groupResume_idle h⟩⟩⟩

/-! ## STOP (R70, R101) -/

section Stop

variable {g : Fin 8} {s : State}

/-- The WITHDRAW of a group is sent exactly where its draft is outstanding. -/
theorem withdrawIfOutstanding_eq (g : Fin 8) (s : State) : withdrawIfOutstanding g s = { s with paths := { s.paths with
    draftPath := s.paths.draftPath ++ if (s.group g).outstanding then [.withdraw g] else [] } } := by
  cases ho : (s.group g).outstanding <;> simp [withdrawIfOutstanding, ho, State.sendDraft]

/-- The state after a STOP that is accepted. -/
def State.stopped (s : State) (g : Fin 8) : State :=
  { s.modifyGroup g fun x => { x with state := .idle, stallNoted := false } with paths := { s.paths with
    draftPath := s.paths.draftPath ++ if (s.group g).outstanding then [.withdraw g] else [] } }

/-- STOP in IDLE. -/
theorem groupStop_idle (h : (s.group g).state = .idle) : groupStop g s = (s, .state) := by
  simp only [groupStop, h, refuse]

/-- STOP out of IDLE. -/
theorem groupStop_stops (h : (s.group g).state ≠ .idle) : groupStop g s = (s.stopped g, .ok) := by
  unfold groupStop
  split <;> rename_i hs
  · exact absurd hs h
  · rw [withdrawIfOutstanding_eq, State.modifyGroup_group_same]
    rfl

end Stop

/-- Settles O32: the owner's two answers, and the record and the path that an accepted STOP leaves. -/
theorem groupStopWithdraws : Obligations.GroupStopWithdraws := by
  intro c g s ht
  refine ⟨fun h => groupStop_answers ht ⟨rfl, rfl, fun _ _ => groupStop_idle h⟩, fun h => ?_⟩
  refine ⟨s.stopped g, groupStop_answers ht ⟨rfl, rfl, fun _ _ => groupStop_stops h⟩, rfl, rfl, fun j => ?_⟩
  exact State.modifyGroup_group s g j fun x => { x with state := .idle, stallNoted := false }

/-! ## CLEAR and RELOAD (R71, R72) -/

section Contents

variable {g : Fin 8} {s : State}

/-- Where the members' values may be set, as the statements say it (R71). -/
theorem GroupState.settable_iff (st : GroupState) : st.settable = true ↔ st = .idle ∨ st = .held := by
  cases st <;> simp [GroupState.settable]

/-- CLEAR in RUNNING and STALLED. -/
theorem groupClear_refused (h : ¬((s.group g).state = .idle ∨ (s.group g).state = .held)) :
    groupClear g s = (s, .state) := if_neg (mt (GroupState.settable_iff _).mp h)

/-- CLEAR in IDLE and HELD. -/
theorem groupClear_clears (h : (s.group g).state = .idle ∨ (s.group g).state = .held) :
    groupClear g s = (s.mapMembers g fun c => { c with value := 0, wrapped := false, stale := false }, .ok) :=
  if_pos ((GroupState.settable_iff _).mpr h)

/-- RELOAD in RUNNING and STALLED. -/
theorem groupReload_refused (h : ¬((s.group g).state = .idle ∨ (s.group g).state = .held)) :
    groupReload g s = (s, .state) := if_neg (mt (GroupState.settable_iff _).mp h)

/-- RELOAD in IDLE and HELD. -/
theorem groupReload_reloads (h : (s.group g).state = .idle ∨ (s.group g).state = .held) :
    groupReload g s = (s.mapMembers g fun c => { c with value := c.preset }, .ok) :=
  if_pos ((GroupState.settable_iff _).mpr h)

/-- A change of a group's members changes the counters alone, and of them the members. -/
theorem mapMembers_members (g : Fin 8) (f : Counter → Counter) (s : State) :
    s.mapMembers g f = { s with counters := (s.mapMembers g f).counters } ∧
      ∀ k : Fin 32, (s.mapMembers g f).counter k =
        if (s.counter k).group = some g then f (s.counter k) else s.counter k :=
  ⟨by simp only [State.mapMembers, State.mapCounters], fun k => by simp⟩

end Contents

/-- Settles O33: the owner's answers, and the members that an accepted command leaves. -/
theorem groupClearAndReload : Obligations.GroupClearAndReload := fun _ g s =>
  ⟨fun ht =>
    ⟨fun h => groupClear_answers ht ⟨rfl, rfl, fun _ _ => groupClear_refused h⟩,
     fun h => ⟨_, groupClear_answers ht (.of_mapMembers rfl rfl fun _ _ => groupClear_clears h), mapMembers_members g _ s⟩⟩,
   fun ht =>
    ⟨fun h => groupReload_answers ht ⟨rfl, rfl, fun _ _ => groupReload_refused h⟩,
     fun h => ⟨_, groupReload_answers ht (.of_mapMembers rfl rfl fun _ _ => groupReload_reloads h),
      mapMembers_members g _ s⟩⟩⟩

end Sys2Proof.Machine
end

section
/-! The answers of the Snapshot Queue at their group, and commits to a group record: what each does, and the statements on them
(R73, R74, R79, R80, R102 to R107, R170). -/

namespace Sys2Proof.Machine

/-! ## Answers (R73, R74, R102 to R107) -/

section Answers

variable {s : State} {g : Fin 8} {rest : List Answer}

/-- The state after an answer: group Gg's record is `x`, the answer is off its path, and these PLACED events have been sent. -/
def State.afterAnswer (s : State) (g : Fin 8) (x : Group) (rest : List Answer) (events : List (Fin 8)) : State :=
  { s.modifyGroup g fun _ => x with
    paths := { s.paths with answers := rest, placements := s.paths.placements ++ events } }

/-- An answer at the front of its path arrives while the part runs (R100). -/
theorem answerArrives_takes {kind : AnswerKind} {f : Fin 8 → State → State} (hm : s.mode = .running)
    (h : s.paths.answers = ⟨kind, g⟩ :: rest) :
    answerArrives kind f s = .next (f g { s with paths := { s.paths with answers := rest } }) := by
  simp [answerArrives, frontAnswer, h, hm, popAnswer]

/-- A final answer that sends no PLACED event. -/
theorem clearOutstanding_afterAnswer (s : State) (g : Fin 8) (rest : List Answer) :
    clearOutstanding g { s with paths := { s.paths with answers := rest } } =
      s.afterAnswer g { s.group g with outstanding := false } rest [] := by
  rw [State.afterAnswer, List.append_nil]
  rfl

/-- TAKEN arrives (R102). -/
theorem answerTaken_takes (hm : s.mode = .running) (h : s.paths.answers = ⟨.taken, g⟩ :: rest) :
    exec .answerTaken s = .next (s.afterAnswer g { s.group g with outstanding := false } rest [g]) := by
  rw [exec, execTaken, answerArrives_takes hm h]
  rfl

/-- REFUSED arrives (R104). -/
theorem answerRefused_takes (hm : s.mode = .running) (h : s.paths.answers = ⟨.refused, g⟩ :: rest) :
    exec .answerRefused s = .next (s.afterAnswer g { s.group g with outstanding := false } rest []) :=
  (answerArrives_takes hm h).trans (congrArg _ (clearOutstanding_afterAnswer s g rest))

/-- ABANDONED arrives (R106). -/
theorem answerAbandoned_takes (hm : s.mode = .running) (h : s.paths.answers = ⟨.abandoned, g⟩ :: rest) :
    exec .answerAbandoned s = .next (s.afterAnswer g { s.group g with outstanding := false } rest []) :=
  (answerArrives_takes hm h).trans (congrArg _ (clearOutstanding_afterAnswer s g rest))

/-- PLACED arrives (R74, R105). -/
theorem answerPlaced_takes (hm : s.mode = .running) (h : s.paths.answers = ⟨.placed, g⟩ :: rest) :
    exec .answerPlaced s = .next
      (s.afterAnswer g (Group.unstall { s.group g with outstanding := false }) rest [g]) := by
  rw [exec, execPlaced, answerArrives_takes hm h, clearOutstanding, modifyGroup_modifyGroup]
  rfl

/-- WAITING arrives (R73, R103). -/
theorem answerWaiting_takes (hm : s.mode = .running) (h : s.paths.answers = ⟨.waiting, g⟩ :: rest) :
    exec .answerWaiting s = .next
      (State.modifyGroup { s with paths := { s.paths with answers := rest } } g fun _ => (s.group g).stall) := by
  rw [exec, execWaiting, answerArrives_takes hm h]
  rfl

/-- A group that is not stalled is left as it is by PLACED. -/
theorem Group.unstall_of_not_stalled {x : Group} (h : x.state.isStalled = false) : x.unstall = x := by
  cases hs : x.state with
  | stalled back => simp [hs, GroupState.isStalled] at h
  | idle | running | held => simp [Group.unstall, hs]

end Answers

/-- Settles O35: each answer's row, and what PLACED and WAITING make of the record in each state. -/
theorem answersAtGroup : Obligations.AnswersAtGroup := by
  constructor
  · intro kind g rest s hm h x ends
    have hends {i : Instr} {x' : Group} {events : List (Fin 8)}
        (hi : exec i s = .next (s.afterAnswer g x' rest events)) : ends i x' events :=
      ⟨_, hi, rfl, rfl, fun j => State.modifyGroup_group s g j fun _ => x'⟩
    have hplaced {x' : Group} (hkind : kind = .placed) (hx : Group.unstall { x with outstanding := false } = x') :
        ends .answerPlaced x' [g] := by
      subst hkind
      exact hends (hx ▸ answerPlaced_takes hm h)
    refine ⟨?_, ?_, ?_, fun hk hs => hplaced hk (Group.unstall_of_not_stalled hs), fun hk hs => hplaced hk ?_,
      fun hk hs => hplaced hk ?_⟩
    · rintro rfl
      exact hends (answerTaken_takes hm h)
    · rintro rfl
      exact hends (answerRefused_takes hm h)
    · rintro rfl
      exact hends (answerAbandoned_takes hm h)
    · simp only [Group.unstall, hs]
    · simp only [Group.unstall, hs]
  · intro g rest s hm h p becomes
    have hstall : exec .answerWaiting s = .next (p.modifyGroup g fun _ => (s.group g).stall) := answerWaiting_takes hm h
    refine ⟨fun hs => ?_, fun hs => ?_, fun hs => ?_⟩
    · rw [hstall]
      simp only [Group.stall, hs]
      rfl
    · rw [hstall]
      simp only [Group.stall, hs]
      rfl
    · have hsame : (p.modifyGroup g fun _ => (s.group g).stall).groups = p.groups := State.groups_ext fun j => by
        rw [State.modifyGroup_group]
        split <;> rename_i hj
        · subst hj
          simp only [Group.stall, hs]
          rfl
        · rfl
      rw [hstall]
      exact congrArg (fun gs => Host.Outcome.next { p with groups := gs }) hsame

/-! ## The values that a field of a group takes (R80, R170) -/

/-- 0 is WAIT and 1 is DROP. -/
theorem policyOf_below {v : Latch} : (v.toNat = 0 → policyOf v = some .wait) ∧ (v.toNat = 1 → policyOf v = some .drop) := by
  refine ⟨fun h => ?_, fun h => ?_⟩
  · obtain rfl : v = 0 := BitVec.eq_of_toNat_eq h
    rfl
  · obtain rfl : v = 1 := BitVec.eq_of_toNat_eq h
    rfl

/-- A value above 1 names no policy. -/
theorem policyOf_above {v : Latch} (h : 1 < v.toNat) : policyOf v = none := by
  have h0 : v ≠ 0 := latch_ne_of_lt (by omega : 0 < v.toNat)
  have h1 : v ≠ 1 := latch_ne_of_lt h
  rw [policyOf, if_neg h0, if_neg h1]

/-- The number of a group as a 48-bit value. -/
theorem num_group_toNat (g : Fin 8) : (num g.val).toNat = g.val := by
  rw [num, BitVec.toNat_ofNat, Nat.mod_eq_of_lt (by omega)]

/-- The number of a group names it. -/
theorem groupNumberOf_num (g : Fin 8) : groupNumberOf (num g.val) = some (some g) := by
  have h15 : num g.val ≠ 15 := fun e => by
    have h := num_group_toNat g
    rw [e] at h
    have := g.isLt
    simp at h
    omega
  rw [groupNumberOf, if_neg h15, num_group_toNat, finOf_val, Option.map_some]

/-- 15 is NONE and END. -/
theorem groupNumberOf_none {v : Latch} (h : v.toNat = 15) : groupNumberOf v = some none := by
  obtain rfl : v = 15 := BitVec.eq_of_toNat_eq h
  rfl

/-- A value above 7 other than 15 is no encoding. -/
theorem groupNumberOf_above {v : Latch} (h : 7 < v.toNat) (h15 : v.toNat ≠ 15) : groupNumberOf v = none := by
  have hne : v ≠ 15 := fun e => h15 (by rw [e]; rfl)
  rw [groupNumberOf, if_neg hne, finOf_none h, Option.map_none]

/-- A group takes no number that is no encoding, and not its own (R80). -/
theorem chainNextFor_none {g : Fin 8} {v : Latch} (h : (7 < v.toNat ∧ v.toNat ≠ 15) ∨ v = num g.val) :
    chainNextFor g v = none := by
  obtain ⟨h7, h15⟩ | rfl := h
  · rw [chainNextFor, groupNumberOf_above h7 h15, Option.filter_none]
  · simp [chainNextFor, groupNumberOf_num]

/-- A group takes END. -/
theorem chainNextFor_end {v : Latch} (g : Fin 8) (h : v.toNat = 15) : chainNextFor g v = some none := by
  simp [chainNextFor, groupNumberOf_none h]

/-- A group takes another group. -/
theorem chainNextFor_other {g h : Fin 8} (hne : h ≠ g) : chainNextFor g (num h.val) = some (some h) := by
  simp [chainNextFor, groupNumberOf_num, hne]

/-! ## Commits to a group record (R79, R80) -/

section GroupConfig

variable {α : Type} {g : Fin 8} {f : α → Group → Group} {s : State}

/-- A configuration write of a group in service is refused (R79). -/
theorem groupConfigWrite_locked (v : Option α) (h : (s.group g).state ≠ .idle) :
    groupConfigWrite g v f s = (s, .locked) := if_neg h

/-- A configuration write of an IDLE group of a value that the field does not take (R79). -/
theorem groupConfigWrite_range {v : Option α} (h : (s.group g).state = .idle) (hv : v = none) :
    groupConfigWrite g v f s = (s, .range) := by
  subst hv
  exact if_pos h

/-- A configuration write of an IDLE group of a value that the field takes (R79). -/
theorem groupConfigWrite_takes {v : Option α} {x : α} (h : (s.group g).state = .idle) (hv : v = some x) :
    groupConfigWrite g v f s = (s.modifyGroup g fun _ => f x (s.group g), .ok) := by
  subst hv
  exact if_pos h

end GroupConfig

/-- The ten fields that no write changes (R79). -/
theorem writeGroup_readonly {g : Fin 8} {f : GroupField} {v : Latch} {s : State}
    (hf : f ∉ [.policy, .holdAfter, .reloadAfter, .period, .chainNext]) : writeGroup g f v s = (s, .readonly) := by
  cases f with
  | policy | holdAfter | reloadAfter | period | chainNext => simp at hf
  | state | returnState | members | countdown | outstanding | missed | lost | placed | dropped | abandoned => rfl

/-- GROUP_FIELD_WRITE is the owner's answer to the commit. -/
theorem groupFieldWrite_commits {s t : State} {c : CyclePhase} {w : Word} {g : Fin 8} {f : GroupField} {r : ResultCode}
    (h : s.takes c (.write 0x08 w) = true) (hsel : s.selected = some (.group g f))
    (j : JudgedAs (writeGroup g f (s.host.commitValue w)) s t r) :
    exec (.groupFieldWrite c w) s = .next (t.committed c w r) := by
  rw [exec, execGroupFieldWrite]
  exact tableWrite_commits h (by rw [hsel]) j

/-- Settles O39: the owner's answers field by field, each as a commit of the row. -/
theorem groupFieldWrites : Obligations.GroupFieldWrites := by
  intro c w g f s ht hsel v x answers takes
  have hrow {t : State} {r : ResultCode} (j : JudgedAs (writeGroup g f v) s t r) :
      exec (.groupFieldWrite c w) s = .next (t.committed c w r) := groupFieldWrite_commits ht hsel j
  refine ⟨fun hf => ?_, fun hf hl => ?_, fun hi => ?_⟩
  · exact hrow ⟨rfl, rfl, fun _ _ => writeGroup_readonly hf⟩
  · have hf : f = .policy ∨ f = .holdAfter ∨ f = .reloadAfter ∨ f = .period ∨ f = .chainNext := by simpa using hf
    obtain rfl | rfl | rfl | rfl | rfl := hf <;> exact hrow ⟨rfl, rfl, fun _ _ => groupConfigWrite_locked _ hl⟩
  refine ⟨?above, ?wait, ?drop, ?holdAfter, ?reloadAfter, ?periodAbove, ?period, ?chainOutside, ?chainEnd, ?chainNext⟩
  case above =>
    rintro (rfl | rfl | rfl) hv
    · exact hrow ⟨rfl, rfl, fun _ _ => groupConfigWrite_range hi (policyOf_above hv)⟩
    · exact hrow ⟨rfl, rfl, fun _ _ => groupConfigWrite_range hi (yesNoOf_above hv)⟩
    · exact hrow ⟨rfl, rfl, fun _ _ => groupConfigWrite_range hi (yesNoOf_above hv)⟩
  case wait =>
    rintro rfl hv
    exact hrow ⟨rfl, rfl, fun _ _ => groupConfigWrite_takes hi (policyOf_below.1 hv)⟩
  case drop =>
    rintro rfl hv
    exact hrow ⟨rfl, rfl, fun _ _ => groupConfigWrite_takes hi (policyOf_below.2 hv)⟩
  case holdAfter =>
    rintro rfl b hv
    exact hrow ⟨rfl, rfl, fun _ _ => groupConfigWrite_takes hi (hv ▸ yesNoOf_bit48 b)⟩
  case reloadAfter =>
    rintro rfl b hv
    exact hrow ⟨rfl, rfl, fun _ _ => groupConfigWrite_takes hi (hv ▸ yesNoOf_bit48 b)⟩
  case periodAbove =>
    rintro rfl hv
    exact hrow ⟨rfl, rfl, fun _ _ => groupConfigWrite_range hi (bitsOf_tooLarge (n := 16) hv)⟩
  case period =>
    rintro rfl hv
    exact hrow ⟨rfl, rfl, fun _ _ => groupConfigWrite_takes hi (bitsOf_fits (n := 16) (Nat.lt_succ_of_le hv))⟩
  case chainOutside =>
    rintro rfl hv
    exact hrow ⟨rfl, rfl, fun _ _ => groupConfigWrite_range hi (chainNextFor_none hv)⟩
  case chainEnd =>
    rintro rfl hv
    exact hrow ⟨rfl, rfl, fun _ _ => groupConfigWrite_takes hi (chainNextFor_end g hv)⟩
  case chainNext =>
    rintro rfl h hne hv
    exact hrow ⟨rfl, rfl, fun _ _ => groupConfigWrite_takes hi (hv ▸ chainNextFor_other hne)⟩

end Sys2Proof.Machine
end

section
/-! The losses of a stall and their reports in a source event, before the reports of missed captures (R58, R77, R78, R99). -/

namespace Sys2Proof.Machine

/-! ## The order of the reports (log entry 3) -/

/-- An insertion keeps what a list holds. -/
theorem insertByRank_perm (rank : Fin 8 → Nat) (g : Fin 8) : ∀ l : List (Fin 8), (insertByRank rank g l).Perm (g :: l)
  | [] => .refl _
  | h :: l => by
    unfold insertByRank
    split
    · exact .refl _
    · exact ((insertByRank_perm rank g l).cons h).trans (.swap g h l)

/-- The reports are those of the groups given, in some order. -/
theorem stallReportOrder_perm (n : Nat) : ∀ gs : List (Fin 8), (stallReportOrder n gs).Perm gs
  | [] => .refl _
  | g :: gs => (insertByRank_perm _ g _).trans ((stallReportOrder_perm n gs).cons g)

/-! ## Losses noted (R77, R78) -/

section Losses

variable (lost : Fin 8 → Nat) (s : State)

/-- Reports sent one after another join their path in that order. -/
theorem foldl_engineNotice (f : Fin 8 → Notice) : ∀ (gs : List (Fin 8)) (t : State),
    gs.foldl (fun t g => t.engineNotice (f g)) t =
      { t with paths := { t.paths with fromEngine := t.paths.fromEngine ++ gs.map f } }
  | [], t => by simp
  | g :: gs, t => by
    rw [List.foldl_cons, foldl_engineNotice f gs]
    simp [State.engineNotice]

/-- What noting the losses of an event does: the group records, the reports of first losses, and the model's free counter. -/
theorem noteLosses_eq : ∃ n : Nat, noteLosses lost s = { s.mapGroups fun g x => x.noteLoss (lost g) with
    freeCount := n
    paths := { s.paths with
      fromEngine := s.paths.fromEngine ++
        (stallReportOrder s.freeCount (firstLosses lost s)).map fun g => .error .stallLoss (some g) } } := by
  unfold noteLosses
  simp only [foldl_engineNotice, State.mapGroups_paths]
  split
  · exact ⟨_, rfl⟩
  · exact ⟨_, rfl⟩

/-- The group records once the losses are noted. -/
theorem noteLosses_group (g : Fin 8) : (noteLosses lost s).group g = (s.group g).noteLoss (lost g) := by
  obtain ⟨n, h⟩ := noteLosses_eq lost s
  rw [h]
  exact s.mapGroups_group (fun g x => x.noteLoss (lost g)) g

/-- The paths once the losses are noted. -/
theorem noteLosses_paths : (noteLosses lost s).paths = { s.paths with
    fromEngine := s.paths.fromEngine ++
      (stallReportOrder s.freeCount (firstLosses lost s)).map fun g => .error .stallLoss (some g) } := by
  obtain ⟨n, h⟩ := noteLosses_eq lost s
  rw [h]

/-- No counter changes. -/
theorem noteLosses_counter (k : Fin 32) : (noteLosses lost s).counter k = s.counter k := by
  obtain ⟨n, h⟩ := noteLosses_eq lost s
  rw [h]
  exact s.mapGroups_counter (fun g x => x.noteLoss (lost g)) k

end Losses

/-- A group that loses nothing notes nothing. -/
theorem Group.noteLoss_zero (x : Group) : x.noteLoss 0 = x := rfl

/-- A group that loses events counts them, up to the largest count, and has noted the loss. -/
theorem Group.noteLoss_of_ne {x : Group} {n : Nat} (h : n ≠ 0) :
    (x.noteLoss n).stallNoted = true ∧ (x.noteLoss n).lost.toNat = min (x.lost.toNat + n) 4294967295 := by
  rw [Group.noteLoss, if_neg h]
  exact ⟨rfl, satAdd_toNat x.lost n⟩

/-- A loss noted changes neither the state of a group nor whether its draft is outstanding. -/
theorem Group.noteLoss_service (x : Group) (n : Nat) :
    (x.noteLoss n).state = x.state ∧ (x.noteLoss n).outstanding = x.outstanding := by
  unfold Group.noteLoss
  split <;> exact ⟨rfl, rfl⟩

/-! ## Overflow causes at the groups (R59) -/

/-- What decides whether a wrapped counter belongs to an overflow set. -/
def Counter.membership (c : Counter) : Option (Fin 8) × Bool := (c.group, c.overflowCapture)

/-- The overflow set depends on the memberships alone. -/
theorem State.overflowSet_congr {s t : State} (h : ∀ k : Fin 32, (t.counter k).membership = (s.counter k).membership)
    (w : List (Fin 32)) (g : Fin 8) : t.overflowSet w g = s.overflowSet w g := by
  refine List.filter_congr fun k _ => ?_
  obtain ⟨hgroup, hcapture⟩ : (t.counter k).group = (s.counter k).group ∧
      (t.counter k).overflowCapture = (s.counter k).overflowCapture := by
    simpa [Counter.membership] using h k
  rw [Counter.isMember, Counter.isMember, hgroup, hcapture]

/-- Whether a group misses an overflow cause depends on its state, its draft and its overflow set. -/
theorem State.missesOverflow_congr {s t : State} {w : List (Fin 32)} {g : Fin 8}
    (h : ∀ k : Fin 32, (t.counter k).membership = (s.counter k).membership)
    (hstate : (t.group g).state = (s.group g).state) (hout : (t.group g).outstanding = (s.group g).outstanding) :
    t.missesOverflow w g = s.missesOverflow w g := by
  rw [State.missesOverflow, State.missesOverflow, State.overflowSet_congr h, hstate, hout]

section OverflowCause

variable (w : List (Fin 32)) (s : State) (g : Fin 8)

/-- An overflow cause at a group is taken, missed, or does not reach it (R59, R87). -/
theorem overflowCauseAt_cases :
    (s.missesOverflow w g = false ∧ overflowCauseAt w s g = takeCapture g (.overflow (maskOf (s.overflowSet w g))) s) ∨
      (s.missesOverflow w g = true ∧ overflowCauseAt w s g = missCapture g s) ∨
      (s.missesOverflow w g = false ∧ overflowCauseAt w s g = s) := by
  unfold overflowCauseAt State.missesOverflow
  dsimp only
  split <;> rename_i hreach
  · have hrunning : (s.group g).state = .running := by simpa using (Bool.and_eq_true_iff.mp hreach).1
    rw [hreach, Bool.true_and]
    cases ho : (s.group g).outstanding with
    | false => exact .inl ⟨rfl, by simp [captureCause, Group.canCapture, hrunning, ho]⟩
    | true => exact .inr (.inl ⟨rfl, by simp [captureCause, Group.canCapture, hrunning, ho]⟩)
  · rw [Bool.eq_false_iff.mpr hreach, Bool.false_and]
    exact .inr (.inr ⟨rfl, rfl⟩)

/-- No membership changes. -/
theorem overflowCauseAt_membership (k : Fin 32) :
    ((overflowCauseAt w s g).counter k).membership = (s.counter k).membership := by
  obtain ⟨-, h⟩ | ⟨-, h⟩ | ⟨-, h⟩ := overflowCauseAt_cases w s g <;> rw [h]
  · rw [takeCapture_counter]
    split <;> rfl
  · rfl

/-- No other group changes. -/
theorem overflowCauseAt_group_other {h : Fin 8} (hh : h ≠ g) : (overflowCauseAt w s g).group h = s.group h := by
  obtain ⟨-, e⟩ | ⟨-, e⟩ | ⟨-, e⟩ := overflowCauseAt_cases w s g <;> rw [e]
  · rw [takeCapture_group, if_neg hh]
  · rw [missCapture_group, if_neg hh]

/-- What a group's stall has lost, and whether the loss is noted. -/
def Group.stallLoss (x : Group) : BitVec 32 × Bool := (x.lost, x.stallNoted)

/-- No group's losses change. -/
theorem overflowCauseAt_stallLoss (h : Fin 8) :
    ((overflowCauseAt w s g).group h).stallLoss = (s.group h).stallLoss := by
  obtain ⟨-, e⟩ | ⟨-, e⟩ | ⟨-, e⟩ := overflowCauseAt_cases w s g <;> rw [e]
  · rw [takeCapture_group]
    split <;> rename_i hh
    · exact hh ▸ rfl
    · rfl
  · rw [missCapture_group]
    split <;> rename_i hh
    · exact hh ▸ rfl
    · rfl

/-- A capture with a set of counters as its cause reports nothing: a chain starts there, and ends at no loop. -/
theorem takeCapture_overflow_fromEngine (set : CounterSet) :
    (takeCapture g (.overflow set) s).paths.fromEngine = s.paths.fromEngine := by
  cases hnext : (s.group g).chainNext <;> simp [takeCapture, passChain, hnext]

/-- A missed cause is reported, and nothing else is. -/
theorem overflowCauseAt_fromEngine : (overflowCauseAt w s g).paths.fromEngine =
    s.paths.fromEngine ++ if s.missesOverflow w g then [.error .missed (some g)] else [] := by
  obtain ⟨hm, e⟩ | ⟨hm, e⟩ | ⟨hm, e⟩ := overflowCauseAt_cases w s g <;> rw [e, hm]
  · rw [takeCapture_overflow_fromEngine]
    simp
  · rfl
  · simp

end OverflowCause

/-- The overflow causes at the groups of a list, one after another: each missed cause is reported, in the order of the list. -/
theorem foldl_overflowCauseAt_fromEngine (w : List (Fin 32)) : ∀ (l : List (Fin 8)) (s : State), l.Nodup →
    (l.foldl (overflowCauseAt w) s).paths.fromEngine =
      s.paths.fromEngine ++ (l.filter (s.missesOverflow w)).map fun g => .error .missed (some g)
  | [], s, _ => by simp
  | g :: l, s, hl => by
    obtain ⟨hg, hl⟩ := List.nodup_cons.mp hl
    have hrest : l.filter ((overflowCauseAt w s g).missesOverflow w) = l.filter (s.missesOverflow w) :=
      List.filter_congr fun h hh => by
        have hne : h ≠ g := fun e => hg (e ▸ hh)
        exact State.missesOverflow_congr (overflowCauseAt_membership w s g) (by rw [overflowCauseAt_group_other w s g hne])
          (by rw [overflowCauseAt_group_other w s g hne])
    rw [List.foldl_cons, foldl_overflowCauseAt_fromEngine w l _ hl, hrest, overflowCauseAt_fromEngine]
    cases hm : s.missesOverflow w g <;> simp [hm]

/-! ## One source event (R58) -/

section SourceEvent

variable (src : Source) (a : Amount) (s : State)

/-- The state of a source event after its first step: the counters have taken it, and the losses are noted. -/
def State.afterCounting : State := noteLosses (s.losses src a) (countEvent src a s)

/-- The three steps of a source event (R58). -/
theorem applySource_eq : applySource src a s =
    (groupIds.foldl (overflowCauseAt (s.wrappedBy src a)) (s.afterCounting src a)).sendOverflows (s.wrappedBy src a) := by
  rw [applySource, State.afterCounting]

/-- An event changes no counter's membership. -/
theorem Counter.take_membership (c : Counter) (p : Position) : (c.take p a).membership = c.membership := by
  have htested : (c.tested a).membership = c.membership := by
    unfold Counter.tested
    split <;> rfl
  cases p with
  | idle => rfl
  | suspended => exact htested
  | counting =>
    unfold Counter.take
    dsimp only
    split <;> exact htested

/-- An event at the counters changes no group. -/
theorem countEvent_group (g : Fin 8) : (countEvent src a s).group g = s.group g := s.mapCounters_group _ g

/-- An event at the counters sends nothing. -/
theorem countEvent_paths : (countEvent src a s).paths = s.paths := s.mapCounters_paths _

/-- The first step changes no membership. -/
theorem afterCounting_membership (k : Fin 32) :
    ((s.afterCounting src a).counter k).membership = (s.counter k).membership := by
  rw [State.afterCounting, noteLosses_counter, countEvent, State.mapCounters_counter]
  split
  · exact Counter.take_membership a _ _
  · rfl

/-- The group records after the first step. -/
theorem afterCounting_group (g : Fin 8) :
    (s.afterCounting src a).group g = (s.group g).noteLoss (s.losses src a g) := by
  rw [State.afterCounting, noteLosses_group, countEvent_group]

/-- The groups whose stall has its first loss in an event, before it. -/
theorem firstLosses_countEvent : firstLosses (s.losses src a) (countEvent src a s) =
    groupIds.filter fun g => decide (s.losses src a g ≠ 0) && !(s.group g).stallNoted :=
  List.filter_congr fun g _ => by rw [countEvent_group]

/-- The reports of the first step. -/
theorem afterCounting_fromEngine : (s.afterCounting src a).paths.fromEngine = s.paths.fromEngine ++
    (stallReportOrder (countEvent src a s).freeCount (firstLosses (s.losses src a) (countEvent src a s))).map
      fun g => .error .stallLoss (some g) := by
  rw [State.afterCounting, noteLosses_paths, countEvent_paths]

/-- The first step decides nothing of which groups miss an overflow cause. -/
theorem afterCounting_missesOverflow (w : List (Fin 32)) (g : Fin 8) :
    (s.afterCounting src a).missesOverflow w g = s.missesOverflow w g := by
  obtain ⟨hstate, hout⟩ := (s.group g).noteLoss_service (s.losses src a g)
  exact State.missesOverflow_congr (afterCounting_membership src a s) (by rw [afterCounting_group, hstate])
    (by rw [afterCounting_group, hout])

/-- The reports that one source event sends: first losses in some order, then missed captures (R78, R99). -/
theorem applySource_fromEngine : ∃ order : List (Fin 8),
    order.Perm (groupIds.filter fun g => decide (s.losses src a g ≠ 0) && !(s.group g).stallNoted) ∧
      (applySource src a s).paths.fromEngine = s.paths.fromEngine ++ order.map (fun g => .error .stallLoss (some g)) ++
        (groupIds.filter (s.missesOverflow (s.wrappedBy src a))).map fun g => .error .missed (some g) := by
  have hmisses : (s.afterCounting src a).missesOverflow (s.wrappedBy src a) = s.missesOverflow (s.wrappedBy src a) :=
    funext (afterCounting_missesOverflow src a s _)
  have hcauses := foldl_overflowCauseAt_fromEngine (s.wrappedBy src a) groupIds (s.afterCounting src a)
    (List.nodup_finRange 8)
  rw [afterCounting_fromEngine, firstLosses_countEvent, hmisses] at hcauses
  refine ⟨_, stallReportOrder_perm (countEvent src a s).freeCount _, ?_⟩
  rw [applySource_eq, State.sendOverflows_paths]
  dsimp only
  exact hcauses

/-- What one source event makes a group lose (R77). -/
theorem applySource_stallLoss (g : Fin 8) :
    ((applySource src a s).group g).stallLoss = ((s.group g).noteLoss (s.losses src a g)).stallLoss := by
  rw [applySource_eq, State.sendOverflows_group,
    foldl_frame (fun t : State => (t.group g).stallLoss) _ (fun t h => overflowCauseAt_stallLoss _ t h g),
    afterCounting_group]

end SourceEvent

/-- Settles O25: the losses noted, and the rows that apply one source event. -/
theorem stallLossReports : Obligations.StallLossReports := by
  constructor
  · intro lost s
    refine ⟨_, stallReportOrder_perm s.freeCount (firstLosses lost s), noteLosses_paths lost s, fun g hg => ?_, fun g hg => ?_,
      fun g hg => ?_⟩
    · rw [noteLosses_group]
      exact (Group.noteLoss_of_ne hg).1
    · rw [noteLosses_group]
      exact (Group.noteLoss_of_ne hg).2
    · rw [noteLosses_group, hg, Group.noteLoss_zero]
  · intro i src x p s hm harrives
    have hexec : exec i s = .next (applySource src x p) := by
      obtain ⟨path, rfl, hfront⟩ | ⟨k, rest, rfl, hpath, rfl, rfl, rfl⟩ | ⟨g, rest, rfl, hpath, rfl, rfl, rfl⟩ := harrives
      · exact sourceEvent_applies hm hfront
      · exact overflowEvent_applies hm hpath
      · exact placedEvent_applies hm hpath
    obtain ⟨order, hperm, hreports⟩ := applySource_fromEngine src x p
    refine ⟨_, order, hexec, hperm, hreports, fun g hg => ?_⟩
    obtain ⟨hnoted, hlost⟩ := Group.noteLoss_of_ne (x := p.group g) hg
    obtain ⟨hlost', hnoted'⟩ := Prod.mk.inj (applySource_stallLoss src x p g)
    exact ⟨hnoted'.trans hnoted, (congrArg BitVec.toNat hlost').trans hlost⟩

end Sys2Proof.Machine
end

section
/-! Capture taking: the chain tag and the sixth step by the cause and the chain next, and the statements on a capture and on
GROUP CAPTURE (R87, R88, R91 to R96, R111 to R114). -/

namespace Sys2Proof.Machine

/-! ## The tag (R95, R111) -/

/-- A cause that starts a chain at a group with a chain next: every cause but a chain request (R95). -/
def CaptureCause.startsChain : CaptureCause → Bool
  | .chain _ => false
  | _ => true

/-- A cause that starts no chain is a chain request. -/
theorem CaptureCause.startsChain_eq_false_iff {cause : CaptureCause} :
    cause.startsChain = false ↔ ∃ r : ChainRequest, cause = .chain r := by
  cases cause <;> simp [CaptureCause.startsChain]

section Tag

variable (g : Fin 8) (cause : CaptureCause) (s : State)

/-- The tag counter is drawn where a chain starts. -/
theorem State.tagDrawn_eq : s.tagDrawn g cause =
    if (s.group g).chainNext.isSome && cause.startsChain then s.chainTag + 1 else s.chainTag := by
  cases hnext : (s.group g).chainNext <;> cases cause <;> simp [State.tagDrawn, CaptureCause.startsChain, hnext]

/-- A cause that starts chains brings the tag counter's value where there is a chain next, and else none. -/
theorem State.tagFor_starting (h : cause.startsChain = true) :
    s.tagFor g cause = if (s.group g).chainNext.isSome then some s.chainTag else none := by
  cases cause with
  | chain r => cases h
  | host | periodic | overflow set => cases hnext : (s.group g).chainNext <;> simp [State.tagFor, hnext]

end Tag

/-! ## The sixth step (R95, R112 to R114) -/

section SixthStep

variable {g n : Fin 8} {tag : BitVec 8} {r : ChainRequest} {cause : CaptureCause} {s : State}

/-- A cause that starts chains sends the first request. -/
theorem passChain_starts (h : cause.startsChain = true) :
    passChain g (some n) tag cause s = s.sendChain ⟨g, tag, [g], 1, n⟩ := by
  cases cause with
  | chain r => cases h
  | host | periodic | overflow set => rfl

/-- A chain whose next group was visited ends there. -/
theorem passChain_loop (h : n ∈ addVisited g r.visited) :
    passChain g (some n) tag (.chain r) s = s.engineNotice (.error .loop (some n)) := if_pos h

/-- A chain whose next group was not visited goes on to it. -/
theorem passChain_goesOn (h : n ∉ addVisited g r.visited) : passChain g (some n) tag (.chain r) s =
    s.sendChain ⟨r.origin, r.chainTag, addVisited g r.visited, (addVisited g r.visited).length, n⟩ := if_neg h

/-- The sixth step changes the paths alone, and looks at nothing else of the state. -/
theorem passChain_congr {t : State} (next : Option (Fin 8)) (h : t.paths = s.paths) :
    passChain g next tag cause t = { t with paths := (passChain g next tag cause s).paths } := by
  cases next with
  | none => exact h ▸ rfl
  | some n =>
    cases hc : cause.startsChain with
    | true => simp only [passChain_starts hc, State.sendChain, h]
    | false =>
      obtain ⟨r, rfl⟩ := CaptureCause.startsChain_eq_false_iff.mp hc
      by_cases hn : n ∈ addVisited g r.visited
      · simp only [passChain_loop hn, State.engineNotice, h]
      · simp only [passChain_goesOn hn, State.sendChain, h]

variable (g cause s)

/-- A capture sends its draft, and then what its sixth step sends. -/
theorem takeCapture_paths : (takeCapture g cause s).paths =
    (passChain g (s.group g).chainNext s.chainTag cause (s.sendDraft (.draft (s.draftOf g cause)))).paths := by
  unfold takeCapture
  dsimp only
  rw [passChain_congr (s := s.sendDraft (.draft (s.draftOf g cause)))]
  simp

end SixthStep

/-! ## What a capture leaves (section 5.2) -/

section Capture

variable {g n : Fin 8} {r : ChainRequest} {cause : CaptureCause} {s : State}

/-- At a group whose chain next is END a capture sends its draft alone. -/
theorem takeCapture_paths_end (hnext : (s.group g).chainNext = none) : (takeCapture g cause s).paths =
    { s.paths with draftPath := (takeCapture g cause s).paths.draftPath } := by
  rw [takeCapture_paths, hnext]
  rfl

/-- A capture that starts a chain sends its first request besides (R112). -/
theorem takeCapture_paths_starts (hnext : (s.group g).chainNext = some n) (hc : cause.startsChain = true) :
    (takeCapture g cause s).paths = { s.paths with
      draftPath := (takeCapture g cause s).paths.draftPath
      chainRequests := s.paths.chainRequests ++ [⟨g, s.chainTag, [g], 1, n⟩] } := by
  rw [takeCapture_paths, hnext, passChain_starts hc]
  rfl

/-- A capture for a chain that has visited the next group reports the loop besides (R114). -/
theorem takeCapture_paths_loop (hnext : (s.group g).chainNext = some n) (hn : n ∈ addVisited g r.visited) :
    (takeCapture g (.chain r) s).paths = { s.paths with
      draftPath := (takeCapture g (.chain r) s).paths.draftPath
      fromEngine := s.paths.fromEngine ++ [.error .loop (some n)] } := by
  rw [takeCapture_paths, hnext, passChain_loop hn]
  rfl

/-- A capture for a chain that has not visited the next group sends the request on besides (R113). -/
theorem takeCapture_paths_goesOn (hnext : (s.group g).chainNext = some n) (hn : n ∉ addVisited g r.visited) :
    (takeCapture g (.chain r) s).paths = { s.paths with
      draftPath := (takeCapture g (.chain r) s).paths.draftPath
      chainRequests := s.paths.chainRequests ++
        [⟨r.origin, r.chainTag, addVisited g r.visited, (addVisited g r.visited).length, n⟩] } := by
  rw [takeCapture_paths, hnext, passChain_goesOn hn]
  rfl

variable (g cause s)

/-- The draft path after a capture (R91). -/
theorem takeCapture_draftPath :
    (takeCapture g cause s).paths.draftPath = s.paths.draftPath ++ [.draft (s.draftOf g cause)] := by
  rw [takeCapture_frame]

/-- The tag counter after a capture (R111). -/
theorem takeCapture_chainTag : (takeCapture g cause s).chainTag =
    if (s.group g).chainNext.isSome && cause.startsChain then s.chainTag + 1 else s.chainTag := by
  rw [takeCapture_frame]
  exact s.tagDrawn_eq g cause

/-- A capture changes counter and group records, the tag counter and the paths alone. -/
theorem takeCapture_changes : takeCapture g cause s = { s with
    counters := (takeCapture g cause s).counters, groups := (takeCapture g cause s).groups
    chainTag := (takeCapture g cause s).chainTag, paths := (takeCapture g cause s).paths } := by
  rw [takeCapture_frame]

end Capture

/-- Settles O27: the records by the rules of a capture, the draft and the tag by the cause, and the paths by the cases of the
sixth step. -/
theorem captureTakingInSixSteps : Obligations.CaptureTakingInSixSteps := by
  intro g cause s t next starts
  have hstarts : starts = (next.isSome && cause.startsChain) := by cases cause <;> rfl
  refine ⟨takeCapture_changes g cause s, takeCapture_group g cause s, takeCapture_counter g cause s, ?tag, ?draft,
    takeCapture_paths_end, ?start, ?request⟩
  case tag => exact hstarts ▸ takeCapture_chainTag g cause s
  case draft =>
    refine (takeCapture_draftPath g cause s).trans ?_
    cases cause with
    | chain r => rfl
    | host | periodic | overflow set =>
      rw [State.draftOf, State.tagFor_starting g _ s rfl]
      rfl
  case start =>
    intro n hnext hst
    have hc : cause.startsChain = true := (Bool.and_eq_true_iff.mp (hstarts.symm.trans hst)).2
    exact takeCapture_paths_starts hnext hc
  case request =>
    rintro n r hnext rfl
    exact ⟨addVisited g r.visited, fun _ => mem_addVisited, addVisited_nodup, takeCapture_paths_loop hnext,
      takeCapture_paths_goesOn hnext⟩

/-! ## GROUP CAPTURE (R87, R88) -/

/-- The sixth step looks neither at the Host Port nor at the bus. -/
theorem passChain_withHost (g : Fin 8) (next : Option (Fin 8)) (tag : BitVec 8) (cause : CaptureCause) (s : State)
    (h : HostPort) (b : Bus) : passChain g next tag cause { s with host := h, bus := b } =
      { passChain g next tag cause s with host := h, bus := b } := by
  rw [passChain_congr (s := s) (t := s) next rfl]
  exact passChain_congr next rfl

/-- A capture looks neither at the Host Port nor at the bus. -/
theorem takeCapture_withHost (g : Fin 8) (cause : CaptureCause) (s : State) (h : HostPort) (b : Bus) :
    takeCapture g cause { s with host := h, bus := b } = { takeCapture g cause s with host := h, bus := b } := by
  unfold takeCapture
  dsimp only
  rw [← passChain_withHost]
  rfl

section Command

variable {g : Fin 8} {s : State}

/-- GROUP CAPTURE at a group that can take a capture. -/
theorem groupCapture_takes (h : (s.group g).canCapture = true) : groupCapture g s = (takeCapture g .host s, .ok) := if_pos h

/-- GROUP CAPTURE in IDLE. -/
theorem groupCapture_idle (h : (s.group g).state = .idle) : groupCapture g s = (s, .state) := by
  simp only [groupCapture, Group.canCapture, h, Bool.false_eq_true, if_false, if_true, refuse]

/-- GROUP CAPTURE in service while a draft is outstanding. -/
theorem groupCapture_busy (h : (s.group g).state ≠ .idle) (ho : (s.group g).outstanding = true) :
    groupCapture g s = (s, .busy) := by
  have hcan : ¬(s.group g).canCapture = true := by simp [Group.canCapture_iff, ho]
  rw [groupCapture, if_neg hcan, if_neg h]
  rfl

/-- GROUP_CAPTURE is the owner's answer to CAPTURE. -/
theorem groupCapture_answers {t : State} {c : CyclePhase} {r : ResultCode}
    (h : s.takes c (.write 0x04 (groupWord 0x05 g)) = true) (j : JudgedAs (groupCapture g) s t r) :
    exec (.groupCapture c g) s = .next (t.answered c r) := groupCommand_answers h j

end Command

/-- Settles O28: the owner's three answers. -/
theorem groupCaptureJudged : Obligations.GroupCaptureJudged := by
  intro c g s ht
  refine ⟨fun hlive ho => ?_, fun h ho => groupCapture_answers ht ⟨rfl, rfl, fun _ _ => groupCapture_busy h ho⟩,
    fun h => groupCapture_answers ht ⟨rfl, rfl, fun _ _ => groupCapture_idle h⟩⟩
  have hcan : (s.group g).canCapture = true := Group.canCapture_iff.mpr ⟨hlive, ho⟩
  have hhost : (takeCapture g .host s).host = s.host := by rw [takeCapture_changes]
  have hbus : (takeCapture g .host s).bus = s.bus := by rw [takeCapture_changes]
  have htakes (h : HostPort) (b : Bus) : groupCapture g { s with host := h, bus := b } =
      ({ takeCapture g .host s with host := h, bus := b }, .ok) :=
    (groupCapture_takes (s := { s with host := h, bus := b }) hcan).trans (by rw [takeCapture_withHost])
  exact groupCapture_answers ht ⟨hhost, hbus, htakes⟩

end Sys2Proof.Machine
end

section
/-! A chain request at its target: its three ends by the state of the target, and the statement on them (R110, R116 to R118). -/

namespace Sys2Proof.Machine

/-- A group whose draft is outstanding takes no capture (R87). -/
theorem Group.canCapture_of_outstanding {x : Group} (ho : x.outstanding = true) : x.canCapture = false := by
  simp [Bool.eq_false_iff, Group.canCapture_iff, ho]

/-- An IDLE group takes no capture (R87). -/
theorem Group.canCapture_of_idle {x : Group} (h : x.state = .idle) : x.canCapture = false := by
  simp only [Group.canCapture, h]

/-- A missed capture changes the group records and adds its report (R99). -/
theorem missCapture_changes (g : Fin 8) (s : State) : missCapture g s = { s with
    groups := (missCapture g s).groups
    paths := { s.paths with fromEngine := s.paths.fromEngine ++ [.error .missed (some g)] } } := rfl

section Target

variable {r : ChainRequest} {s : State}

/-- A target that can capture does so, with cause CHAIN (R116). -/
theorem takeChainRequest_takes (h : (s.group r.target).canCapture = true) :
    takeChainRequest r s = takeCapture r.target (.chain r) s := if_pos h

/-- A target in service with a draft outstanding misses the capture (R117). -/
theorem takeChainRequest_misses (h : (s.group r.target).state ≠ .idle) (ho : (s.group r.target).outstanding = true) :
    takeChainRequest r s = missCapture r.target s := by
  rw [takeChainRequest, Group.canCapture_of_outstanding ho, if_neg Bool.false_ne_true, if_neg h]

/-- An IDLE target ends the chain (R118). -/
theorem takeChainRequest_idle (h : (s.group r.target).state = .idle) :
    takeChainRequest r s = s.engineNotice (.error .idleTarget (some r.target)) := by
  rw [takeChainRequest, Group.canCapture_of_idle h, if_neg Bool.false_ne_true, if_pos h]

/-- CHAIN_REQUEST takes the request at the front of the chain path off it and to its target (R110). -/
theorem chainRequest_arrives {rest : List ChainRequest} (hm : s.mode = .running) (h : s.paths.chainRequests = r :: rest) :
    exec .chainRequest s = .next (takeChainRequest r { s with paths := { s.paths with chainRequests := rest } }) := by
  simp only [exec, execChainRequest, h, event_running hm]

end Target

/-- Settles O29: the arrival of the request, and the three ends at its target, whose record the removal of the request from its
path leaves as it is. -/
theorem chainRequestAtTarget : Obligations.ChainRequestAtTarget := by
  intro r rest s hm hpath p x
  have harrives : exec .chainRequest s = .next (takeChainRequest r p) := chainRequest_arrives hm hpath
  refine ⟨fun hlive ho => ?takes, fun h ho => ⟨missCapture r.target p, ?misses, missCapture_changes _ _, missCapture_group _ _⟩,
    fun h => ?idle⟩
  case takes =>
    have hcan : (p.group r.target).canCapture = true := Group.canCapture_iff.mpr ⟨hlive, ho⟩
    rw [harrives, takeChainRequest_takes hcan]
  case misses => rw [harrives, takeChainRequest_misses (s := p) h ho]
  case idle =>
    rw [harrives, takeChainRequest_idle (s := p) h]
    rfl

end Sys2Proof.Machine
end

section
/-! A draft at the Snapshot Queue: the room in the store, the three outcomes of its judgement, and the statements on them (R123 to
R130, R142, R143). -/

namespace Sys2Proof.Machine

/-- A draft fits while both bounds of the store have room for it (R123). -/
theorem Queue.fits_iff {q : Queue} {n : Nat} : q.fits n = true ↔ q.records.length < 64 ∧ q.valueUse + n ≤ 256 := by
  rw [Queue.fits, Bool.and_eq_true, decide_eq_true_eq, decide_eq_true_eq]
  rfl

/-- A draft does not fit once one of the bounds has no room for it (R123). -/
theorem Queue.not_fits_iff {q : Queue} {n : Nat} : q.fits n = false ↔ 64 ≤ q.records.length ∨ 256 < q.valueUse + n := by
  rw [Bool.eq_false_iff, Ne, Queue.fits_iff]
  omega

/-- A table of counts with one group's count replaced. -/
theorem set_group_getElem (v : Vector (BitVec 16) 8) (g h : Fin 8) (x : BitVec 16) :
    (v.set g x)[h] = if h = g then x else v[h] := by
  simp [Vector.getElem_set, Fin.ext_iff, eq_comm]

/-- A placement counts one for the group of its draft (R144). -/
theorem Queue.place_placed (q : Queue) (d : Draft) (e : Option Epoch) (g : Fin 8) :
    (q.place d e).placed[g] = if g = d.group then q.placed[d.group] + 1 else q.placed[g] :=
  set_group_getElem q.placed d.group g _

section Arrival

variable {d : Draft} {rest : List DraftMessage} {s : State}

/-- DRAFT takes the draft at the front of the draft path off it and has it judged (R127). -/
theorem draft_arrives (hm : s.mode = .running) (h : s.paths.draftPath = .draft d :: rest) :
    exec .draft s = .next (takeDraft d { s with paths := { s.paths with draftPath := rest } }) := by
  simp only [exec, execDraft, h, event_running hm]

/-- With no draft waiting and room in the store, a draft is placed at once (R127). -/
theorem takeDraft_places (hw : s.queue.waitList = []) (hf : s.queue.fits d.entries.length = true) :
    takeDraft d s = placeDraft d none .taken s := by
  rw [takeDraft, hw, hf]
  rfl

/-- Behind a waiting draft, or with no room in the store, a draft cannot be placed at once (R127). -/
theorem cannotPlace (h : s.queue.waitList ≠ [] ∨ s.queue.fits d.entries.length = false) :
    ¬(s.queue.waitList.isEmpty && s.queue.fits d.entries.length) = true := by
  obtain h | h := h <;> simp [h]

/-- Under WAIT such a draft joins the wait list (R129). -/
theorem takeDraft_waits (h : s.queue.waitList ≠ [] ∨ s.queue.fits d.entries.length = false) (hp : d.policy = .wait) :
    takeDraft d s = joinWaitList d s := by
  rw [takeDraft, if_neg (cannotPlace h), hp]

/-- Under DROP such a draft is refused (R130). -/
theorem takeDraft_drops (h : s.queue.waitList ≠ [] ∨ s.queue.fits d.entries.length = false) (hp : d.policy = .drop) :
    takeDraft d s = dropDraft d s := by
  rw [takeDraft, if_neg (cannotPlace h), hp]

end Arrival

/-- Settles O40: the draft is placed, and the whole placement is known. -/
theorem draftPlacedAtOnce : Obligations.DraftPlacedAtOnce := by
  intro d rest s hm hpath hwait hrecords hvalues
  let p : State := { s with paths := { s.paths with draftPath := rest } }
  have hfits : p.queue.fits d.entries.length = true := Queue.fits_iff.mpr ⟨hrecords, hvalues⟩
  refine ⟨placeDraft d none .taken p, ?_, ?_⟩
  · rw [draft_arrives hm hpath, takeDraft_places (s := p) hwait hfits]
  · rw [placeDraft_frame]
    refine ⟨rfl, rfl, ?_, fun g hg => ?_, rfl⟩
    · exact (Queue.place_placed s.queue d none d.group).trans (if_pos rfl)
    · exact (Queue.place_placed s.queue d none g).trans (if_neg hg)

/-- Settles O41: the draft is judged by its policy. -/
theorem draftWaitsOrIsRefused : Obligations.DraftWaitsOrIsRefused := by
  intro d rest s hm hpath hroom
  let p : State := { s with paths := { s.paths with draftPath := rest } }
  have hnot : p.queue.waitList ≠ [] ∨ p.queue.fits d.entries.length = false := hroom.imp_right Queue.not_fits_iff.mpr
  rw [draft_arrives hm hpath]
  refine ⟨fun hp => ?wait, fun hp => ⟨dropDraft d p, ?drop, rfl, rfl, ?_, fun g hg => ?_, rfl⟩⟩
  case wait =>
    rw [takeDraft_waits hnot hp]
    rfl
  case drop => rw [takeDraft_drops hnot hp]
  · exact (set_group_getElem s.queue.dropped d.group d.group _).trans (if_pos rfl)
  · exact (set_group_getElem s.queue.dropped d.group g _).trans (if_neg hg)

end Sys2Proof.Machine
end

section
/-! The grant step: the drafts it places from the head of the wait list, what their placements leave, and the statement on it
(R132, R133, R142, R143). -/

namespace Sys2Proof.Machine

/-! ## The drafts granted (R132) -/

/-- A placement adds one record (R125). -/
theorem Queue.place_records_length (q : Queue) (d : Draft) (e : Option Epoch) :
    (q.place d e).records.length = q.records.length + 1 := by
  simp [Queue.place]

/-- A placement adds the entries of its draft to the value use (R123). -/
theorem Queue.place_valueUse (q : Queue) (d : Draft) (e : Option Epoch) :
    (q.place d e).valueUse = q.valueUse + d.entries.length := rfl

/-- Which drafts a grant step places depends on the record count and the value use alone. -/
theorem grantable_congr {q q' : Queue} (hr : q'.records.length = q.records.length) (hv : q'.valueUse = q.valueUse)
    (ds : List Draft) : grantable q' ds = grantable q ds := by
  induction ds generalizing q q' with
  | nil => rfl
  | cons d rest ih =>
    have hfits : q'.fits d.entries.length = q.fits d.entries.length := by simp only [Queue.fits, hr, hv]
    have hrest : grantable (q'.place d none) rest = grantable (q.place d none) rest :=
      ih (by simp only [Queue.place_records_length, hr]) (by simp only [Queue.place_valueUse, hv])
    rw [grantable, grantable, hfits, hrest]

/-- The draft behind the drafts granted does not fit after them (R132). -/
theorem grantable_stops {q : Queue} {ds : List Draft} {d : Draft}
    (h : (ds.drop (grantable q ds).length).head? = some d) :
    64 ≤ q.records.length + (grantable q ds).length ∨
      256 < q.valueUse + ((grantable q ds).map (·.entries.length)).sum + d.entries.length := by
  induction ds generalizing q with
  | nil => simp [grantable] at h
  | cons x rest ih =>
    by_cases hf : q.fits x.entries.length = true
    · rw [grantable, if_pos hf] at h ⊢
      have hrest := ih (q := q.place x none) h
      rw [Queue.place_records_length, Queue.place_valueUse] at hrest
      simp only [List.length_cons, List.map_cons, List.sum_cons]
      omega
    · rw [grantable, if_neg hf] at h ⊢
      obtain rfl : x = d := by simpa using h
      have hroom := Queue.not_fits_iff.mp (Bool.eq_false_iff.mpr hf)
      simpa using hroom

/-- A list that fits the store as a whole is granted whole (R123, R132). -/
theorem grantable_whole {q : Queue} {ds : List Draft} (hr : q.records.length + ds.length ≤ 64)
    (hv : q.valueUse + (ds.map (·.entries.length)).sum ≤ 256) : grantable q ds = ds := by
  induction ds generalizing q with
  | nil => rfl
  | cons d rest ih =>
    simp only [List.length_cons, List.map_cons, List.sum_cons] at hr hv
    have hfits : q.fits d.entries.length = true := Queue.fits_iff.mpr (by omega)
    have hrest : grantable (q.place d none) rest = rest :=
      ih (by rw [Queue.place_records_length]; omega) (by rw [Queue.place_valueUse]; omega)
    rw [grantable, if_pos hfits, hrest]

/-! ## The placements of a list of drafts (R133) -/

/-- The drafts of a list placed one after another from the wait list (R133). -/
def placeAll (ds : List Draft) (s : State) : State :=
  ds.foldl (fun u d => placeDraft d (some u.timebase.epoch) .placed u) s

/-- The grant step places the drafts granted, and the others stay on the wait list. -/
theorem grant_eq (ds : List Draft) (s : State) :
    grant ds s = (placeAll (grantable s.queue ds) s).withWaitList (ds.drop (grantable s.queue ds).length) := by
  induction ds generalizing s with
  | nil => rfl
  | cons d rest ih =>
    by_cases hf : s.queue.fits d.entries.length = true
    · let u : State := placeDraft d (some s.timebase.epoch) .placed s
      have hqueue : grantable u.queue rest = grantable (s.queue.place d none) rest := by
        have hu : u.queue = s.queue.place d (some s.timebase.epoch) := congrArg State.queue (placeDraft_frame d _ _ s)
        have hrecords : (s.queue.place d (some s.timebase.epoch)).records.length = (s.queue.place d none).records.length := by
          rw [Queue.place_records_length, Queue.place_records_length]
        rw [hu, grantable_congr hrecords rfl]
      rw [grant, if_pos hf, grantable, if_pos hf, ih u, hqueue]
      rfl
    · rw [grant, if_neg hf, grantable, if_neg hf]
      rfl

/-- Counting on from the next number. -/
theorem succ_add_ofNat (n : BitVec 16) (i : Nat) : n + 1 + BitVec.ofNat 16 i = n + BitVec.ofNat 16 (i + 1) := by
  rw [BitVec.ofNat_add, BitVec.add_comm (BitVec.ofNat 16 i), ← BitVec.add_assoc]
  rfl

/-- The records that a list of drafts becomes, numbered from n (R124, R125). -/
def placedRecords (e : Epoch) (n : BitVec 16) (ds : List Draft) : List Record :=
  ds.zipIdx.map fun d => d.1.record (n + BitVec.ofNat 16 d.2) (some e)

/-- The status events of a list of placements that begins with n records in the store (R142, R143). -/
def placementNotices (watermark : Word) (n : Nat) (ds : List Draft) : List Notice :=
  ds.zipIdx.flatMap fun d =>
    (if watermark.toNat ≤ n + d.2 + 1 then [.status .level] else []) ++
      (if d.1.cause.overflowSet?.isSome then [.status .ovfrec] else [])

/-- The first draft takes the number n, and those behind it the numbers from n + 1. -/
theorem placedRecords_cons (e : Epoch) (n : BitVec 16) (d : Draft) (ds : List Draft) :
    placedRecords e n (d :: ds) = d.record n (some e) :: placedRecords e (n + 1) ds := by
  have hzero : n + BitVec.ofNat 16 0 = n := BitVec.add_zero n
  simp only [placedRecords, List.zipIdx_cons, zero_add, List.zipIdx_succ, List.map_cons, List.map_map, Function.comp_def,
    succ_add_ofNat, hzero]

/-- The first placement leaves n + 1 records, and those behind it begin with as many. -/
theorem placementNotices_cons (watermark : Word) (n : Nat) (d : Draft) (ds : List Draft) :
    placementNotices watermark n (d :: ds) =
      (if watermark.toNat ≤ n + 1 then [.status .level] else []) ++
        (if d.cause.overflowSet?.isSome then [.status .ovfrec] else []) ++ placementNotices watermark (n + 1) ds := by
  have hcount (i : Nat) : n + (i + 1) + 1 = n + 1 + i + 1 := by omega
  simp only [placementNotices, List.zipIdx_cons, zero_add, List.zipIdx_succ, List.flatMap_cons, List.flatMap_map, hcount,
    Nat.add_zero]

/-- What the placements of a list of drafts change; the placed counts stand in `placeAll_placed`. -/
theorem placeAll_eq (ds : List Draft) (s : State) : placeAll ds s = { s with
    queue := { s.queue with
      records := s.queue.records ++ placedRecords s.timebase.epoch s.queue.sequence ds
      valueUse := s.queue.valueUse + (ds.map (·.entries.length)).sum
      sequence := s.queue.sequence + BitVec.ofNat 16 ds.length
      placed := (placeAll ds s).queue.placed }
    paths := { s.paths with
      answers := s.paths.answers ++ ds.map (fun d => ⟨.placed, d.group⟩)
      fromQueue := s.paths.fromQueue ++ placementNotices s.queue.watermark s.queue.records.length ds } } := by
  induction ds generalizing s with
  | nil => simp [placeAll, placedRecords, placementNotices]
  | cons d rest ih =>
    have hcons : placeAll (d :: rest) s = placeAll rest (placeDraft d (some s.timebase.epoch) .placed s) := rfl
    rw [hcons, ih, placeDraft_frame]
    simp only [Queue.place, placedRecords_cons, placementNotices_cons, succ_add_ofNat, List.length_append,
      List.length_cons, List.length_nil, zero_add, List.map_cons, List.sum_cons, List.append_assoc, List.cons_append,
      List.nil_append, Nat.add_assoc]

/-- Each group's placed count goes up by the number of its drafts (R144). -/
theorem placeAll_placed (ds : List Draft) (s : State) (g : Fin 8) : (placeAll ds s).queue.placed[g] =
    s.queue.placed[g] + BitVec.ofNat 16 (ds.countP fun d => decide (d.group = g)) := by
  induction ds generalizing s with
  | nil => simp [placeAll]
  | cons d rest ih =>
    have hcons : placeAll (d :: rest) s = placeAll rest (placeDraft d (some s.timebase.epoch) .placed s) := rfl
    have hfirst : (placeDraft d (some s.timebase.epoch) .placed s).queue.placed[g] =
        if g = d.group then s.queue.placed[d.group] + 1 else s.queue.placed[g] := by
      rw [placeDraft_frame]
      exact Queue.place_placed s.queue d _ g
    rw [hcons, ih, hfirst, List.countP_cons]
    by_cases h : g = d.group
    · subst h
      rw [if_pos rfl, if_pos (decide_eq_true rfl), succ_add_ofNat]
    · rw [if_neg h, if_neg (by simp [Ne.symm h]), Nat.add_zero]

/-- Settles O42: the grant step is the placements of the drafts granted, with the other drafts left on the wait list. -/
theorem grantStepPlacesInOrder : Obligations.GrantStepPlacesInOrder := by
  intro s ds t
  have ht : t = (placeAll ds s).withWaitList (s.queue.waitList.drop ds.length) := grant_eq s.queue.waitList s
  have hplaced (g : Fin 8) : t.queue.placed[g] =
      s.queue.placed[g] + BitVec.ofNat 16 (ds.countP fun d => decide (d.group = g)) := by
    rw [ht]
    exact placeAll_placed ds s g
  rw [placeAll_eq] at ht
  have hstop (d : Draft) (hd : (s.queue.waitList.drop ds.length).head? = some d) :
      t.queue.records.length = 64 ∨ 256 < t.queue.valueUse + d.entries.length ∨ 64 < t.queue.records.length := by
    have hroom : 64 ≤ s.queue.records.length + ds.length ∨
        256 < s.queue.valueUse + (ds.map (·.entries.length)).sum + d.entries.length := grantable_stops hd
    have hrecords : t.queue.records.length = s.queue.records.length + ds.length := by
      rw [ht]
      simp [State.withWaitList, placedRecords]
    have hvalues : t.queue.valueUse = s.queue.valueUse + (ds.map (·.entries.length)).sum := by rw [ht]; rfl
    omega
  refine ⟨?_, ?_, ?_, ?_, ?_, hplaced, ?_, ?_, ?_, ?_, ?_, ?_, hstop⟩ <;> rw [ht] <;> rfl

end Sys2Proof.Machine
end

section
/-! What takes drafts and records away, and the watermark: WITHDRAW, QUEUE RELEASE and QUEUE FLUSH, each with the grant step
behind it, WATERMARK, and the statements on them (R134, R139 to R141). -/

namespace Sys2Proof.Machine

/-! ## WITHDRAW (R134) -/

section Withdraw

variable {g : Fin 8} {s : State}

/-- WITHDRAW takes the message at the front of the draft path off it and to the queue (R101). -/
theorem withdraw_arrives {rest : List DraftMessage} (hm : s.mode = .running) (h : s.paths.draftPath = .withdraw g :: rest) :
    exec .withdraw s = .next (takeWithdraw g { s with paths := { s.paths with draftPath := rest } }) := by
  simp only [exec, execWithdraw, h, event_running hm]

/-- With no waiting draft of the group, a WITHDRAW is ignored (R134). -/
theorem takeWithdraw_ignored (h : ∀ d ∈ s.queue.waitList, d.group ≠ g) : takeWithdraw g s = s := by
  have hnone : ¬(s.queue.waitList.any fun d => decide (d.group = g)) = true := by simpa using h
  rw [takeWithdraw, if_neg hnone]

/-- A waiting draft of the group is abandoned, and the grant step runs (R134). -/
theorem takeWithdraw_abandons {d : Draft} (hd : d ∈ s.queue.waitList) (hg : d.group = g) :
    takeWithdraw g s = grantStep (abandonDraft g s) := by
  have hsome : (s.queue.waitList.any fun d => decide (d.group = g)) = true :=
    List.any_eq_true.mpr ⟨d, hd, decide_eq_true hg⟩
  rw [takeWithdraw, if_pos hsome]

/-- The draft that leaves the wait list is the first of its group, and the others keep their order (R134). -/
theorem eraseP_group {front back : List Draft} {d : Draft} (hg : d.group = g) (hfront : ∀ x ∈ front, x.group ≠ g) :
    ((front ++ d :: back).eraseP fun x => decide (x.group = g)) = front ++ back := by
  have hpast : ∀ x ∈ front, ¬decide (x.group = g) = true := by simpa using hfront
  have hfirst : (d :: back).eraseP (fun x => decide (x.group = g)) = back := List.eraseP_cons_of_pos (decide_eq_true hg)
  rw [List.eraseP_append_right _ hpast, hfirst]

end Withdraw

/-- Settles O43: the WITHDRAW is ignored, or abandons the first waiting draft of its group. -/
theorem withdrawAbandonsWaitingDraft : Obligations.WithdrawAbandonsWaitingDraft := by
  intro g rest s hm hpath p
  have harrives : exec .withdraw s = .next (takeWithdraw g p) := withdraw_arrives hm hpath
  refine ⟨fun hnone => ?ignored, fun front back d hlist hg hfront => ?abandoned⟩
  case ignored => rw [harrives, takeWithdraw_ignored (s := p) hnone]
  case abandoned =>
    have hmem : d ∈ p.queue.waitList := by
      show d ∈ s.queue.waitList
      rw [hlist]
      exact List.mem_append_right front List.mem_cons_self
    have hqueue : (abandonDraft g p).queue = { s.queue with
        waitList := front ++ back, sequence := s.queue.sequence + 1, abandoned := (abandonDraft g p).queue.abandoned } := by
      rw [← eraseP_group hg hfront, ← hlist]
      rfl
    refine ⟨(abandonDraft g p).queue, hqueue, ?_, fun h hh => ?_, ?_⟩
    · exact (set_group_getElem s.queue.abandoned g g _).trans (if_pos rfl)
    · exact (set_group_getElem s.queue.abandoned g h _).trans (if_neg hh)
    · rw [harrives, takeWithdraw_abandons hmem hg]
      rfl

/-! ## QUEUE RELEASE and QUEUE FLUSH (R139, R140) -/

/-- A placement looks neither at the Host Port nor at the bus. -/
theorem placeDraft_withHost (d : Draft) (e : Option Epoch) (k : AnswerKind) (s : State) (h : HostPort) (b : Bus) :
    placeDraft d e k { s with host := h, bus := b } = { placeDraft d e k s with host := h, bus := b } := by
  rw [placeDraft_frame, placeDraft_frame]

/-- The grant step over a list looks neither at the Host Port nor at the bus. -/
theorem grant_withHost (ds : List Draft) (s : State) (h : HostPort) (b : Bus) :
    grant ds { s with host := h, bus := b } = { grant ds s with host := h, bus := b } := by
  induction ds generalizing s with
  | nil => rfl
  | cons d rest ih =>
    by_cases hf : s.queue.fits d.entries.length = true
    · rw [grant, if_pos hf, placeDraft_withHost, ih, grant, if_pos hf]
    · rw [grant, if_neg hf, grant, if_neg hf]
      rfl

/-- The grant step leaves the Host Port and the bus alone. -/
theorem grantStep_host_bus (s : State) : (grantStep s).host = s.host ∧ (grantStep s).bus = s.bus :=
  grant_keeps (fun u => u.host = s.host ∧ u.bus = s.bus) (fun u d hu _ => by rw [placeDraft_frame]; exact hu)
    (fun _ _ hu => hu) s.queue.waitList s ⟨rfl, rfl⟩

/-- An owner that changes the store and runs the grant step judges with OK, whatever the Host Port and the bus hold. -/
theorem JudgedAs.ofGrantStep {owner : State → State × ResultCode} {s : State} (q : Queue)
    (howner : ∀ (h : HostPort) (b : Bus), owner { s with host := h, bus := b } =
      (grantStep { s with queue := q, host := h, bus := b }, .ok)) :
    JudgedAs owner s (grantStep { s with queue := q }) .ok where
  host := (grantStep_host_bus _).1
  bus := (grantStep_host_bus _).2
  judges h b := (howner h b).trans (congrArg (·, ResultCode.ok) (grant_withHost q.waitList { s with queue := q } h b))

/-- RELEASE at an empty store (R139). -/
theorem queueRelease_empty {s : State} (h : s.queue.records = []) : queueRelease s = (s, .empty) := by
  simp only [queueRelease, h, refuse]

/-- RELEASE removes the head record with its room, and the grant step runs (R139). -/
theorem queueRelease_releases {s : State} {r : Record} {rs : List Record} (h : s.queue.records = r :: rs) :
    queueRelease s = (grantStep { s with queue :=
      { s.queue with records := rs, valueUse := s.queue.valueUse - r.entries.length } }, .ok) := by
  simp only [queueRelease, h, accept]

/-- QUEUE_RELEASE is the owner's answer to RELEASE. -/
theorem queueRelease_answers {s t : State} {c : CyclePhase} {op : BitVec 8} {r : ResultCode}
    (h : s.takes c (.write 0x04 (cmdWord 0x10 op)) = true) (j : JudgedAs queueRelease s t r) :
    exec (.queueRelease c op) s = .next (t.answered c r) := command_answers h j

/-- QUEUE_FLUSH is the owner's answer to FLUSH. -/
theorem queueFlush_answers {s t : State} {c : CyclePhase} {op : BitVec 8} {r : ResultCode}
    (h : s.takes c (.write 0x04 (cmdWord 0x11 op)) = true) (j : JudgedAs queueFlush s t r) :
    exec (.queueFlush c op) s = .next (t.answered c r) := command_answers h j

/-- Drafts of at most m entries bring at most m value entries each. -/
theorem sum_entries_le {m : Nat} {ds : List Draft} (h : ∀ d ∈ ds, d.entries.length ≤ m) :
    (ds.map (·.entries.length)).sum ≤ ds.length * m := by
  have hle := List.sum_le_card_nsmul (ds.map (·.entries.length)) m (by simpa using h)
  rwa [List.length_map, smul_eq_mul] at hle

/-- Settles O44: both commands as the answers of their owner, and the bounds of the store against eight times eight entries. -/
theorem releaseAndFlush : Obligations.ReleaseAndFlush := by
  refine ⟨fun c op s => ⟨fun ht => ⟨fun hempty => ?empty, fun r rs hcons => ?release⟩, fun ht => ?flush⟩, ?whole⟩
  case empty => exact queueRelease_answers ht ⟨rfl, rfl, fun _ _ => queueRelease_empty hempty⟩
  case release => exact queueRelease_answers ht (.ofGrantStep _ fun _ _ => queueRelease_releases hcons)
  case flush => exact queueFlush_answers ht (.ofGrantStep _ fun _ _ => rfl)
  case whole =>
    intro q hrecords hvalues hlength hentries
    have hsum := sum_entries_le hentries
    exact grantable_whole (by rw [hrecords, List.length_nil]; omega) (by omega)

/-! ## WATERMARK (R141) -/

/-- WATERMARK_WRITE is the owner's answer to the word. -/
theorem watermarkWrite_answers {s t : State} {c : CyclePhase} {w : Word} {r : ResultCode}
    (h : s.takes c (.write 0x0C w) = true) (j : JudgedAs (writeWatermark w) s t r) :
    exec (.watermarkWrite c w) s = .next (t.answered c r) := by
  have hj : writeWatermark w s = ({ t with host := s.host, bus := s.bus }, r) := j.judges s.host s.bus
  have hbus : (latchResult (writeWatermark w s)).bus = s.bus := by rw [hj]; rfl
  have hfree (b : Bus) : latchResult (writeWatermark w (s.withBus b)) = (latchResult (writeWatermark w s)).withBus b :=
    congrArg latchResult ((j.busFree s.host).2 b)
  rw [exec, execWatermarkWrite, hostAccess_takes h rfl hfree hbus, hj, ← State.busAfter_congr j.bus, ← j.host]
  rfl

/-- Settles O45: the owner's two answers. -/
theorem watermarkWrites : Obligations.WatermarkWrites := fun _ _ _ ht =>
  ⟨fun hlow hhigh => watermarkWrite_answers ht ⟨rfl, rfl, fun _ _ => if_pos ⟨hlow, hhigh⟩⟩,
   fun hout => watermarkWrite_answers ht ⟨rfl, rfl, fun _ _ => if_neg (by omega)⟩⟩

end Sys2Proof.Machine
end

section
/-! The register window as it reads: the word of each register, its bits, and the statement on them (R138, R153, R156, R160 to
R162, R165, R167). -/

namespace Sys2Proof.Machine

/-- A read of a register other than TDATA0 drives the register's word, and the bus alone changes (R160). -/
theorem tableFetch_reads {c : CyclePhase} {offset : BitVec 6} {s : State} (h : s.takes c (.read offset) = true)
    (hoffset : offset ≠ 0x08) :
    exec (.tableFetch c offset) s = .next { s with bus := s.busAfter c (some (s.windowWord offset)) } := by
  have hread (u : State) : readWindow offset u = u := if_neg hoffset
  rw [exec, execTableFetch, hostAccess_takes h rfl (fun b => by rw [hread, hread]) (by rw [hread]), hread]
  rfl

/-- From 0Eh up the window reads as 0000h (R160). -/
theorem State.windowWord_beyond (s : State) {offset : BitVec 6} (h : 0x0E ≤ offset.toNat) : s.windowWord offset = 0 := by
  unfold State.windowWord
  split
  case h_14 => rfl
  all_goals omega

/-! ## RESULT (R164) -/

/-- The result codes are the numbers 0 to 8 (R164). -/
theorem ResultCode.number_lt (r : ResultCode) : r.number < 9 := by cases r <;> decide

/-- RESULT reads as the number of its code (R164). -/
theorem State.windowWord_result (s : State) : (s.windowWord 0x05).toNat = s.host.result.number := by
  have hlt := s.host.result.number_lt
  exact (BitVec.toNat_ofNat _ _).trans (Nat.mod_eq_of_lt (by omega))

/-! ## TFIELD (R165) -/

/-- A bit, seven zeros and a byte, as the parts of their word. -/
theorem bitZerosByte_parts (b : Bool) (x : BitVec 8) : (BitVec.ofBool b ++ 0#7 ++ x).extractLsb' 0 8 = x ∧
    (BitVec.ofBool b ++ 0#7 ++ x).msb = b ∧ (BitVec.ofBool b ++ 0#7 ++ x).extractLsb' 8 7 = 0 := by
  refine ⟨BitVec.extractLsb'_append_eq_right, ?_, ?_⟩
  · rw [BitVec.msb_append, BitVec.msb_append]
    simp
  · apply BitVec.eq_of_getLsbD_eq
    intro i hi
    rw [BitVec.getLsbD_extractLsb', BitVec.getLsbD_append, BitVec.getLsbD_append]
    simp [hi]

/-- TFIELD has the field number in bits 7 to 0, zeros in bits 14 to 8, and ABSENT in bit 15 (R165). -/
theorem State.windowWord_tfield (s : State) : (s.windowWord 0x07).extractLsb' 0 8 = s.host.tfield ∧
    (s.windowWord 0x07).msb = s.host.absent ∧ (s.windowWord 0x07).extractLsb' 8 7 = 0 :=
  bitZerosByte_parts s.host.absent s.host.tfield

/-! ## LINES (R11, R162) -/

/-- The bit of line Ln in LINES. -/
theorem lineBit_getLsbD (n m : Fin 16) : (1#16 <<< n.val).getLsbD m.val = decide (n = m) := by
  rw [← BitVec.twoPow_eq, BitVec.getLsbD_twoPow]
  simp [Fin.ext_iff]

/-- One line's level added to a word. -/
theorem addLevel_getLsbD (level : Bool) (w : Word) (n m : Fin 16) :
    (if level then w ||| (1#16 <<< n.val) else w).getLsbD m.val = (w.getLsbD m.val || (level && decide (n = m))) := by
  cases level with
  | false => rw [if_neg Bool.false_ne_true, Bool.false_and, Bool.or_false]
  | true => rw [if_pos rfl, BitVec.getLsbD_or, lineBit_getLsbD, Bool.true_and]

/-- LINES shows each line's recognised level (R11). -/
theorem State.levels_getLsbD (s : State) (m : Fin 16) : s.levels.getLsbD m.val = (s.line m).level := by
  have hfold (ns : List (Fin 16)) (w : Word) :
      (ns.foldl (fun w n => if (s.line n).level then w ||| (1#16 <<< n.val) else w) w).getLsbD m.val =
        (w.getLsbD m.val || ((s.line m).level && decide (m ∈ ns))) := by
    induction ns generalizing w with
    | nil => simp
    | cons n ns ih =>
      rw [List.foldl_cons, ih, addLevel_getLsbD, Bool.or_assoc]
      by_cases hn : n = m
      · subst hn
        cases (s.line n).level <;> simp
      · simp [hn, Ne.symm hn]
  exact (hfold (List.finRange 16) 0).trans (by simp)

/-! ## QSTAT (R138) -/

/-- The value use in quarters, rounded up: no fourth of an entry too few, and no whole quarter too many (R138). -/
theorem Queue.quarters_bounds (q : Queue) : q.valueUse ≤ 4 * q.quarters ∧ 4 * q.quarters < q.valueUse + 4 := by
  unfold Queue.quarters
  omega

/-- In a sound store QSTAT has the quarters above the record count, in whole (R123, R138). -/
theorem State.windowWord_qstat {s : State} (h : s.queue.Sound) :
    s.queue.quarters ≤ 64 ∧ (s.windowWord 0x0B).toNat = s.queue.quarters * 256 + s.queue.records.length := by
  obtain ⟨hrecords, -, hvalues, -⟩ := h
  have hcount : s.queue.records.length ≤ 64 := hrecords
  have huse : s.queue.valueUse ≤ 256 := hvalues
  have hquarters : s.queue.quarters ≤ 64 := by
    unfold Queue.quarters
    omega
  refine ⟨hquarters, ?_⟩
  have hword : s.windowWord 0x0B = BitVec.ofNat 8 s.queue.quarters ++ BitVec.ofNat 8 s.queue.records.length := rfl
  rw [hword, BitVec.toNat_append, BitVec.toNat_ofNat, BitVec.toNat_ofNat, Nat.mod_eq_of_lt (by omega),
    Nat.mod_eq_of_lt (by omega), ← Nat.shiftLeft_add_eq_or_of_lt (by omega), Nat.shiftLeft_eq]

/-! ## IRQSTAT and IRQEN (R151 to R153, R156) -/

/-- A class flag is set exactly while its class record is not clear (R151). -/
theorem ClassRecord.isDetected_eq (r : ClassRecord) : r.isDetected = decide (r ≠ .clear) := by cases r <;> simp [isDetected]

/-- Seven bits put together, from bit 0 up in a word of sixteen: a fact of the 128 words. -/
theorem sevenBits_bits : ∀ b0 b1 b2 b3 b4 b5 b6 : Bool,
    (List.range 16).map ((BitVec.ofBool b6 ++ BitVec.ofBool b5 ++ BitVec.ofBool b4 ++ BitVec.ofBool b3 ++ BitVec.ofBool b2 ++
      BitVec.ofBool b1 ++ BitVec.ofBool b0).setWidth 16).getLsbD = [b0, b1, b2, b3, b4, b5, b6] ++ List.replicate 9 false := by
  decide

/-- IRQSTAT has the seven flags from bit 0 up (R162). -/
theorem State.windowWord_irqstat_bits (s : State) : (List.range 16).map (s.windowWord 0x02).getLsbD =
    [s.events.level, s.events.ovfrec, s.events.wait, s.events.agent, decide (s.events.link ≠ .clear),
      decide (s.events.loss ≠ .clear), decide (s.events.chain ≠ .clear)] ++ List.replicate 9 false := by
  rw [← ClassRecord.isDetected_eq, ← ClassRecord.isDetected_eq, ← ClassRecord.isDetected_eq]
  exact sevenBits_bits _ _ _ _ _ _ _

/-- The seven enables, and nothing above them (R156). -/
theorem State.windowWord_irqen_bit (s : State) (i : Nat) :
    (s.windowWord 0x03).getLsbD i = (decide (i < 7) && s.events.enables.getLsbD i) := by
  have hword : s.windowWord 0x03 = s.events.enables.setWidth 16 := rfl
  rw [hword, BitVec.getLsbD_setWidth]
  by_cases hi : i < 7
  · simp [hi, show i < 16 by omega]
  · rw [BitVec.getLsbD_of_ge _ i (by omega), Bool.and_false, Bool.and_false]

/-- Settles O6: the read, then the word of each register, then the bits and the codes. -/
theorem windowReads : Obligations.WindowReads := by
  refine ⟨fun _ _ _ ht hoffset => tableFetch_reads ht hoffset, fun s => ?words, fun s => ?bits⟩
  case words =>
    obtain ⟨hnumber, habsent, hzeros⟩ := s.windowWord_tfield
    exact ⟨rfl, rfl, rfl, rfl, rfl, s.windowWord_result, rfl, hnumber, habsent, hzeros, rfl, rfl, rfl, s.levels_getLsbD,
      fun _ => s.windowWord_beyond, fun h => (State.windowWord_qstat h).2⟩
  case bits =>
    refine ⟨s.windowWord_irqstat_bits, s.windowWord_irqen_bit, s.windowWord_result.trans ?_, fun h => ?_⟩
    · cases s.host.result <;> rfl
    · obtain ⟨hquarters, hword⟩ := State.windowWord_qstat h
      exact ⟨s.queue.quarters, hquarters, hword, s.queue.quarters_bounds⟩

end Sys2Proof.Machine
end

section
/-! The Event Controller: what a report, a status event and a write of IRQSTAT or IRQEN make of its record, and the statements
on them (R147 to R150, R152, R154, R156, R157). -/

namespace Sys2Proof.Machine

/-! ## The record after each of its operations -/

section Record

variable (e : EventController)

@[simp] theorem EventController.judge_enables : e.judge.enables = e.enables := rfl
@[simp] theorem EventController.judge_isSet (f : StatusFlag) : e.judge.isSet f = e.isSet f := rfl
@[simp] theorem EventController.judge_classRecord (c : ErrorClass) : e.judge.classRecord c = e.classRecord c := rfl
@[simp] theorem EventController.judge_flags : e.judge.flags = e.flags := rfl

@[simp] theorem EventController.setRecord_enables (c : ErrorClass) (r : ClassRecord) :
    (e.setRecord c r).enables = e.enables := by cases c <;> rfl
@[simp] theorem EventController.setRecord_irq (c : ErrorClass) (r : ClassRecord) :
    (e.setRecord c r).irq = e.irq := by cases c <;> rfl
@[simp] theorem EventController.setRecord_isSet (c : ErrorClass) (r : ClassRecord) (f : StatusFlag) :
    (e.setRecord c r).isSet f = e.isSet f := by cases c <;> rfl

/-- A class record replaced is its class's, and no other's. -/
@[simp] theorem EventController.setRecord_classRecord (c c' : ErrorClass) (r : ClassRecord) :
    (e.setRecord c r).classRecord c' = if c' = c then r else e.classRecord c' := by cases c <;> cases c' <;> rfl

@[simp] theorem EventController.setFlag_enables (f : StatusFlag) : (e.setFlag f).enables = e.enables := by cases f <;> rfl
@[simp] theorem EventController.setFlag_classRecord (f : StatusFlag) (c : ErrorClass) :
    (e.setFlag f).classRecord c = e.classRecord c := by cases f <;> rfl

/-- A status flag made set is set, and every other is as it was. -/
@[simp] theorem EventController.setFlag_isSet (f f' : StatusFlag) :
    (e.setFlag f).isSet f' = (decide (f' = f) || e.isSet f') := by cases f <;> cases f' <;> rfl

end Record

/-! ## Error reports and status events (R147 to R150, R152) -/

section Notices

variable {e : EventController} {kind : ErrorKind} (subject : Option (Fin 8)) (epoch : Epoch)

/-- The first report of its class is kept, and IRQn is judged (R149, R157). -/
theorem EventController.takeError_first (h : e.classRecord kind.errorClass = .clear) :
    e.takeError kind subject epoch = (e.setRecord kind.errorClass (.detected ⟨kind, subject, epoch⟩ 0)).judge := by
  simp only [takeError, h]

/-- A further report is counted (R150). -/
theorem EventController.takeError_further {first : FirstError} {further : BitVec 8}
    (h : e.classRecord kind.errorClass = .detected first further) :
    e.takeError kind subject epoch = e.setRecord kind.errorClass (.detected first (satInc further)) := by
  simp only [takeError, h]

variable (e kind)

/-- A report replaces the record of its class; what else it changes is IRQn (R149, R150). -/
theorem EventController.takeError_cases : ∃ r : ClassRecord, ∃ irq : Bool,
    e.takeError kind subject epoch = { e.setRecord kind.errorClass r with irq := irq } := by
  cases h : e.classRecord kind.errorClass with
  | clear => exact ⟨_, _, takeError_first subject epoch h⟩
  | detected first further => exact ⟨_, _, takeError_further subject epoch h⟩

/-- A report leaves the enables, the status flags and the records of the other classes (R149, R150). -/
theorem EventController.takeError_frame : (e.takeError kind subject epoch).enables = e.enables ∧
    (∀ f : StatusFlag, (e.takeError kind subject epoch).isSet f = e.isSet f) ∧
    ∀ c : ErrorClass, c ≠ kind.errorClass → (e.takeError kind subject epoch).classRecord c = e.classRecord c := by
  obtain ⟨r, irq, h⟩ := e.takeError_cases kind subject epoch
  rw [h]
  exact ⟨e.setRecord_enables _ r, e.setRecord_isSet _ r, fun c hc => (e.setRecord_classRecord _ c r).trans (if_neg hc)⟩

end Notices

section Arrivals

variable {r : Reporter} {s p : State}

/-- The oldest message taken off a path changes the paths alone (R147). -/
theorem frontNotice_frame {m : Notice} (h : frontNotice r s = some (m, p)) : p = { s with paths := p.paths } := by
  cases r <;>
  · simp only [frontNotice] at h
    split at h
    · cases h
    · cases h
      rfl

/-- An error report at the front of its path is taken at the epoch of the moment (R149, R150). -/
theorem errorReport_arrives {kind : ErrorKind} {subject : Option (Fin 8)} (hm : s.mode = .running)
    (h : frontNotice r s = some (.error kind subject, p)) :
    exec (.errorReport r) s = .next { p with events := s.events.takeError kind subject s.timebase.epoch } := by
  simp only [exec, execErrorReport, h, event_running hm, takeReport]
  rw [frontNotice_frame h]

/-- A status event at the front of its path is taken (R152). -/
theorem statusEvent_arrives {f : StatusFlag} (hm : s.mode = .running) (h : frontNotice r s = some (.status f, p)) :
    exec (.statusEvent r) s = .next { p with events := s.events.takeStatus f } := by
  simp only [exec, execStatusEvent, h, event_running hm]
  rw [frontNotice_frame h]

end Arrivals

/-- Settles O46: the report by whether its class is clear, then the front of each path. -/
theorem errorReportsAreKept : Obligations.ErrorReportsAreKept := by
  refine ⟨fun r kind subject p s hm hf => ?report, fun m rest s => ?front⟩
  case report =>
    obtain ⟨henables, hflags, hothers⟩ := s.events.takeError_frame kind subject s.timebase.epoch
    refine ⟨_, errorReport_arrives hm hf, henables, hflags, hothers, fun hclear => ?_, fun first further hdetected => ?_⟩
    · rw [EventController.takeError_first _ _ hclear]
      exact ⟨by simp, EventController.judge_irq _⟩
    · rw [EventController.takeError_further _ _ hdetected]
      simp
  case front =>
    exact ⟨fun h => by simp only [frontNotice, h], fun h => by simp only [frontNotice, h],
      fun h => by simp only [frontNotice, h]⟩

/-- Settles O47: the status event by whether its flag is set already. -/
theorem statusEventsSetFlags : Obligations.StatusEventsSetFlags := by
  intro r f p s hm hf
  have harrives := statusEvent_arrives hm hf
  refine ⟨fun hset => ?_, fun hclear => ⟨(s.events.setFlag f).judge, ?_, by simp, by simp, by simp,
    EventController.judge_irq _⟩⟩
  · rw [harrives, EventController.takeStatus, if_pos hset, frontNotice_frame hf]
  · rw [harrives, EventController.takeStatus, if_neg (by simp [hclear])]

/-! ## IRQSTAT and IRQEN (R154, R156) -/

/-- The low seven bits of a word, put together. -/
theorem setWidth7_bits (w : Word) : w.setWidth 7 = BitVec.ofBool (w.getLsbD 6) ++ BitVec.ofBool (w.getLsbD 5) ++
    BitVec.ofBool (w.getLsbD 4) ++ BitVec.ofBool (w.getLsbD 3) ++ BitVec.ofBool (w.getLsbD 2) ++
    BitVec.ofBool (w.getLsbD 1) ++ BitVec.ofBool (w.getLsbD 0) := by
  apply BitVec.eq_of_getLsbD_eq
  intro i hi
  simp only [BitVec.getLsbD_append]
  interval_cases i <;> simp

/-- One bit cleared where the other is 1. -/
theorem ofBool_andNot (a b : Bool) : BitVec.ofBool (a && !b) = BitVec.ofBool a &&& ~~~ BitVec.ofBool b := by
  cases a <;> cases b <;> rfl

/-- Bits put together are cleared part by part. -/
theorem append_andNot {m n : Nat} (x x' : BitVec m) (y y' : BitVec n) :
    (x &&& ~~~ x') ++ (y &&& ~~~ y') = (x ++ y) &&& ~~~ (x' ++ y') := by
  rw [BitVec.not_append, BitVec.and_append]

/-- A class flag is cleared with its record (R154). -/
theorem ClassRecord.cleared_isDetected (r : ClassRecord) (b : Bool) : (r.cleared b).isDetected = (r.isDetected && !b) := by
  cases b with
  | false => exact (Bool.and_true _).symm
  | true => exact (Bool.and_false _).symm

/-- A write of IRQSTAT clears exactly the flags written 1 (R154). -/
theorem EventController.writeIrqstat_flags (e : EventController) (w : Word) :
    (e.writeIrqstat w).flags = e.flags &&& ~~~ w.setWidth 7 := by
  rw [setWidth7_bits, writeIrqstat, judge_flags]
  simp only [flags, ClassRecord.cleared_isDetected, ofBool_andNot, append_andNot]

/-- A write of IRQSTAT clears the whole record of each class flag written 1 (R154). -/
theorem EventController.writeIrqstat_classRecord (e : EventController) (w : Word) (k : ErrorClass) :
    (e.writeIrqstat w).classRecord k =
      if w.getLsbD (match k with | .link => 4 | .loss => 5 | .chain => 6) then .clear else e.classRecord k := by
  cases k <;> rfl

/-- A write taken by the Event Controller is answered with RESULT left as it was (R154, R156). -/
theorem eventsWrite_takes {s : State} {c : CyclePhase} {offset : BitVec 6} {w : Word}
    (h : s.takes c (.write offset w) = true) (f : EventController → EventController) :
    hostAccess c (.write offset w) (fun _ => true) (fun t => { t with events := f t.events }) s =
      .next (State.written { s with events := f s.events } c) :=
  hostAccess_takes h rfl (fun _ => rfl) rfl

/-- Settles O48: the two writes of the Event Controller's record, each judged at its end. -/
theorem interruptRegisterWrites : Obligations.InterruptRegisterWrites := fun _ w s =>
  ⟨fun ht => ⟨s.events.writeIrqstat w, eventsWrite_takes ht (·.writeIrqstat w), s.events.writeIrqstat_flags w, rfl,
      EventController.judge_irq _, s.events.writeIrqstat_classRecord w⟩,
    fun ht => eventsWrite_takes ht (·.writeIrqen w)⟩

end Sys2Proof.Machine
end

section
/-! SUPPORT. The bus and the blocks are apart: no owner of an access reads or changes the bus (R158, R159), so that an access
has the same effect whatever the bus holds when its owner takes it. -/

namespace Sys2Proof.Machine

/-- The effect neither reads nor changes the bus. -/
def BusBlind (f : State → State) : Prop := ∀ (s : State) (b : Bus), f (s.withBus b) = (f s).withBus b

/-- The owner judges without reading or changing the bus: it is `BusFree` in every state. -/
def BlindOwner (owner : State → State × ResultCode) : Prop :=
  ∀ (s : State) (b : Bus), owner (s.withBus b) = ((owner s).1.withBus b, (owner s).2)

/-! ## How blind effects and owners are put together -/

/-- A blind effect leaves the bus. -/
theorem BusBlind.bus {f : State → State} (hf : BusBlind f) (s : State) : (f s).bus = s.bus :=
  have h : f s = (f s).withBus s.bus := hf s s.bus
  h ▸ rfl

/-- A blind effect on two states that differ in the bus. -/
theorem BusBlind.apply {f : State → State} (hf : BusBlind f) {s t : State} {b : Bus} (h : t = s.withBus b) :
    f t = (f s).withBus b := h ▸ hf s b

theorem BusBlind.comp {f g : State → State} (hf : BusBlind f) (hg : BusBlind g) : BusBlind fun s => f (g s) :=
  fun s b => (congrArg f (hg s b)).trans (hf (g s) b)

theorem BusBlind.ite {p : State → Prop} [∀ s, Decidable (p s)] {f g : State → State}
    (hp : ∀ (s : State) (b : Bus), p (s.withBus b) ↔ p s) (hf : BusBlind f) (hg : BusBlind g) :
    BusBlind fun s => if p s then f s else g s := by
  intro s b
  by_cases h : p s
  · simp only [if_pos h, if_pos ((hp s b).mpr h), hf s b]
  · simp only [if_neg h, if_neg (mt (hp s b).mp h), hg s b]

theorem BusBlind.foldl {α : Type} {f : State → α → State} (hf : ∀ a : α, BusBlind fun s => f s a) :
    ∀ l : List α, BusBlind fun s => l.foldl f s
  | [] => fun _ _ => rfl
  | a :: l => (BusBlind.foldl hf l).comp (hf a)

theorem BlindOwner.ite {p : State → Prop} [∀ s, Decidable (p s)] {f g : State → State × ResultCode}
    (hp : ∀ (s : State) (b : Bus), p (s.withBus b) ↔ p s) (hf : BlindOwner f) (hg : BlindOwner g) :
    BlindOwner fun s => if p s then f s else g s := by
  intro s b
  by_cases h : p s
  · simp only [if_pos h, if_pos ((hp s b).mpr h), hf s b]
  · simp only [if_neg h, if_neg (mt (hp s b).mp h), hg s b]

theorem BlindOwner.refuse (r : ResultCode) : BlindOwner (refuse r) := fun _ _ => rfl

theorem BlindOwner.accept {f : State → State} (hf : BusBlind f) : BlindOwner fun s => accept (f s) :=
  fun s b => congrArg Machine.accept (hf s b)

/-- A value that a field takes, judged by blind owners. -/
theorem BlindOwner.orRange {α : Type} (v : Option α) {f : α → State → State × ResultCode} (hf : ∀ x : α, BlindOwner (f x)) :
    BlindOwner (orRange v f) := by
  cases v with
  | none => exact .refuse .range
  | some x => exact hf x

/-- The latching of an owner's code in RESULT. -/
theorem BlindOwner.latchResult {owner : State → State × ResultCode} (h : BlindOwner owner) :
    BusBlind fun s => latchResult (owner s) := fun s b => congrArg Machine.latchResult (h s b)

/-- A commit to a blind owner. -/
theorem BlindOwner.commit {w : Word} {f : Latch → State → State × ResultCode} (hf : ∀ v : Latch, BlindOwner (f v)) :
    BusBlind (commit w f) :=
  fun s b => congrArg Machine.latchResult (hf (s.host.commitValue w) (s.beforeCommit w) b)

/-! ## The Timebase, the Line Inputs and the receiver -/

theorem timebaseStart_blind : BlindOwner timebaseStart := fun s b => by
  unfold timebaseStart
  simp only [State.withBus_timebase]
  split <;> rfl

theorem timebaseStop_blind : BlindOwner timebaseStop := fun s b => by
  unfold timebaseStop
  simp only [State.withBus_timebase]
  split <;> rfl

theorem writePeriodCode_blind (v : Latch) : BlindOwner (writePeriodCode v) := fun s b => by
  unfold writePeriodCode
  split <;> rfl

theorem writeEpoch_blind (v : Latch) : BlindOwner (writeEpoch v) := fun s b => by
  unfold writeEpoch
  simp only [State.withBus_timebase]
  split <;> rfl

theorem writeLine_blind (n : Fin 16) (f : LineField) (v : Latch) : BlindOwner (writeLine n f v) := fun s b => by
  cases f with
  | enabled => simp only [writeLine]; split <;> rfl
  | edge => simp only [writeLine]; split <;> rfl
  | level => rfl

theorem linkRestart_blind : BlindOwner linkRestart := fun s b => by
  rw [linkRestart_eq, linkRestart_eq]
  rfl

theorem linkClearCounts_blind : BlindOwner linkClearCounts := fun _ _ => rfl

theorem disableAgent_blind (a : Fin 8) : BusBlind (disableAgent a) := fun s b => by
  rw [disableAgent_eq, disableAgent_eq]
  rfl

theorem writeAgentEnabled_blind (a : Fin 8) (v : Latch) : BlindOwner (writeAgentEnabled a v) := by
  unfold writeAgentEnabled
  split
  · exact .refuse .range
  · exact .ite (fun _ _ => .rfl) (fun _ _ => rfl) (.ite (fun _ _ => .rfl) (fun _ _ => rfl) (.accept (disableAgent_blind a)))

theorem writeSilenceLimit_blind (a : Fin 8) (v : Latch) : BlindOwner (writeSilenceLimit a v) := fun s b => by
  unfold writeSilenceLimit
  split <;> rfl

theorem writeReceiver_blind (f : ReceiverField) (v : Latch) : BlindOwner (writeReceiver f v) := by
  cases f with
  | enabled =>
    unfold writeReceiver
    dsimp only
    split
    · exact .refuse .range
    · exact .ite (fun _ _ => .rfl) (fun _ _ => rfl) (.ite (fun _ _ => .rfl) (fun _ _ => rfl) fun _ _ => rfl)
  | checkErrors | framingErrors | unexpected => exact .refuse .readonly

/-! ## The Count Engine -/

theorem groupStart_blind (g : Fin 8) : BlindOwner (groupStart g) := fun s b => by
  by_cases h : (s.group g).state = .idle
  · cases ho : (s.group g).outstanding with
    | false =>
      rw [groupStart_starts h ho, groupStart_starts (s := s.withBus b) h ho]
      rfl
    | true => rw [groupStart_busy h ho, groupStart_busy (s := s.withBus b) h ho]
  · rw [groupStart_inService h, groupStart_inService (s := s.withBus b) h]

theorem groupHold_blind (g : Fin 8) : BlindOwner (groupHold g) := fun s b => by
  unfold groupHold
  simp only [State.withBus_group]
  split <;> rfl

theorem groupResume_blind (g : Fin 8) : BlindOwner (groupResume g) := fun s b => by
  unfold groupResume
  simp only [State.withBus_group]
  split <;> rfl

theorem withdrawIfOutstanding_blind (g : Fin 8) : BusBlind (withdrawIfOutstanding g) :=
  .ite (fun _ _ => .rfl) (fun _ _ => rfl) fun _ _ => rfl

theorem groupStop_blind (g : Fin 8) : BlindOwner (groupStop g) := fun s b => by
  by_cases h : (s.group g).state = .idle
  · rw [groupStop_idle h, groupStop_idle (s := s.withBus b) h]
  · rw [groupStop_stops h, groupStop_stops (s := s.withBus b) h]
    rfl

theorem groupClear_blind (g : Fin 8) : BlindOwner (groupClear g) :=
  .ite (fun _ _ => .rfl) (fun _ _ => rfl) (.refuse .state)

theorem groupReload_blind (g : Fin 8) : BlindOwner (groupReload g) :=
  .ite (fun _ _ => .rfl) (fun _ _ => rfl) (.refuse .state)

theorem countingReset_blind : BlindOwner countingReset :=
  .accept (BusBlind.comp (f := fun t => (t.mapGroups fun _ x => x.countingReset).mapCounters fun _ c => c.countingReset)
    (fun _ _ => rfl) (.foldl withdrawIfOutstanding_blind groupIds))

theorem passChain_blind (g : Fin 8) (next : Option (Fin 8)) (tag : BitVec 8) (cause : CaptureCause) :
    BusBlind (passChain g next tag cause) := fun s b =>
  (passChain_congr (s := s) (t := s.withBus b) next rfl).trans
    (congrArg (·.withBus b) (passChain_congr (s := s) (t := s) next rfl).symm)

theorem takeCapture_blind (g : Fin 8) (cause : CaptureCause) : BusBlind (takeCapture g cause) := fun s b => by
  refine (passChain_blind g (s.group g).chainNext s.chainTag cause).apply ?_
  rfl

theorem groupCapture_blind (g : Fin 8) : BlindOwner (groupCapture g) :=
  .ite (fun _ _ => .rfl) (.accept (takeCapture_blind g .host)) (.ite (fun _ _ => .rfl) (.refuse .state) (.refuse .busy))

theorem configWrite_blind {α : Type} (k : Fin 32) (v : Option α) (f : α → Counter → Counter) :
    BlindOwner (configWrite k v f) :=
  .ite (fun _ _ => .rfl) (.orRange v fun _ _ _ => rfl) (.refuse .locked)

theorem writeCounter_blind (k : Fin 32) (f : CounterField) (v : Latch) : BlindOwner (writeCounter k f v) := by
  cases f with
  | enabled | source | mode | overflowCapture => exact configWrite_blind k _ _
  | bandLow => exact fun s => configWrite_blind k (bandLowFor (s.counter k) v) _ s
  | bandHigh => exact fun s => configWrite_blind k (bandHighFor (s.counter k) v) _ s
  | group | value | preset | inside | wrapped | stale => exact .refuse .readonly

theorem writeMembership_blind (k : Fin 32) (v : Latch) : BlindOwner (writeMembership k v) := fun s =>
  BlindOwner.ite (p := fun t => (t.groupIdle (t.counter k).group && t.groupIdle (namedGroup v)) = true) (fun _ _ => .rfl)
    (.orRange (groupNumberOf v) fun new =>
      .ite (p := fun t => t.groupFull (s.counter k).group new = true) (fun _ _ => .rfl) (.refuse .full) fun _ _ => rfl)
    (.refuse .locked) s

theorem writeContents_blind (k : Fin 32) (v : Latch) (f : Tally → Counter → Counter) :
    BlindOwner fun s => writeContents k v f s :=
  .ite (fun _ _ => .rfl) (.orRange (bitsOf 40 v) fun _ _ _ => rfl) (.refuse .locked)

theorem groupConfigWrite_blind {α : Type} (g : Fin 8) (v : Option α) (f : α → Group → Group) :
    BlindOwner (groupConfigWrite g v f) :=
  .ite (fun _ _ => .rfl) (.orRange v fun _ _ _ => rfl) (.refuse .locked)

theorem writeGroup_blind (g : Fin 8) (f : GroupField) (v : Latch) : BlindOwner (writeGroup g f v) := by
  cases f with
  | policy | holdAfter | reloadAfter | period | chainNext => exact groupConfigWrite_blind g _ _
  | state | returnState | members | countdown | outstanding | missed | lost | placed | dropped | abandoned =>
    exact .refuse .readonly

/-! ## The Snapshot Queue -/

theorem grantStep_blind : BusBlind grantStep := fun s b => by
  have h : grantStep (s.withBus b) = { grantStep s with host := s.host, bus := b } :=
    grant_withHost s.queue.waitList s s.host b
  rw [h, ← (grantStep_host_bus s).1]
  rfl

theorem queueRelease_blind : BlindOwner queueRelease := fun s b => by
  cases h : s.queue.records with
  | nil => rw [queueRelease_empty h, queueRelease_empty (s := s.withBus b) h]
  | cons r rs =>
    rw [queueRelease_releases h, queueRelease_releases (s := s.withBus b) h, grantStep_blind.apply]
    rfl

theorem queueFlush_blind : BlindOwner queueFlush := fun s b =>
  BlindOwner.accept grantStep_blind { s with queue := { s.queue with records := [], valueUse := 0 } } b

theorem writeWatermark_blind (w : Word) : BlindOwner (writeWatermark w) :=
  .ite (fun _ _ => .rfl) (fun _ _ => rfl) (.refuse .range)

/-! ## The Host Port -/

theorem readWindow_blind (offset : BitVec 6) : BusBlind (readWindow offset) := by
  unfold readWindow
  exact .ite (fun _ _ => .rfl) (fun _ _ => rfl) fun _ _ => rfl

/-- The word that an answer drives is no word of the bus. -/
theorem wordDriven_withBus (acc : Access) (s : State) (b : Bus) : wordDriven acc (s.withBus b) = wordDriven acc s := by
  cases acc <;> rfl

end Sys2Proof.Machine
end

section
/-! SUPPORT. No event of a block changes the bus (R158, R175): the frames of the effects that stand behind the rows which are no
host access. -/

namespace Sys2Proof.Machine

/-! ## The receiver -/

/-- A rising edge of TCLK. -/
theorem takeBit_bus (bit : Bool) (s : State) : (takeBit bit s).bus = s.bus := by
  unfold takeBit
  dsimp only
  split
  · rfl
  · rfl
  · split <;> rfl
  · split
    · rfl
    · rw [judgeFrame_frame]
      rfl

/-- The expiry of the quiet measurement. -/
theorem expireQuiet_bus (s : State) : (expireQuiet s).bus = s.bus := by
  unfold expireQuiet
  dsimp only
  split <;> rfl

/-- A tick at the Tally Receiver. -/
theorem takeReceiverTick_bus (s : State) : (takeReceiverTick s).bus = s.bus := by
  rw [takeReceiverTick_eq]
  rfl

/-! ## The Count Engine -/

/-- A PERIODIC or OVERFLOW cause at a group. -/
theorem captureCause_bus (g : Fin 8) (cause : CaptureCause) (s : State) : (captureCause g cause s).bus = s.bus := by
  unfold captureCause
  split
  · exact (takeCapture_blind g cause).bus s
  · split <;> rfl

/-- A chain request at its target. -/
theorem takeChainRequest_bus (r : ChainRequest) (s : State) : (takeChainRequest r s).bus = s.bus := by
  unfold takeChainRequest
  split
  · exact (takeCapture_blind r.target (.chain r)).bus s
  · split <;> rfl

/-- The losses of an event noted. -/
theorem noteLosses_bus (lost : Fin 8 → Nat) (s : State) : (noteLosses lost s).bus = s.bus := by
  obtain ⟨n, h⟩ := noteLosses_eq lost s
  rw [h]
  exact s.mapGroups_bus fun g x => x.noteLoss (lost g)

/-- A source event at the Count Engine. -/
theorem applySource_bus (src : Source) (a : Amount) (s : State) : (applySource src a s).bus = s.bus := by
  have hcause (u : State) (g : Fin 8) : (overflowCauseAt (s.wrappedBy src a) u g).bus = u.bus := by
    unfold overflowCauseAt
    dsimp only
    split
    · exact captureCause_bus g _ u
    · rfl
  have hcounted : (s.afterCounting src a).bus = s.bus := by
    rw [State.afterCounting, noteLosses_bus, countEvent, State.mapCounters_bus]
  rw [applySource_eq, State.sendOverflows_bus, foldl_frame State.bus _ hcause, hcounted]

/-- A tick at the Count Engine. -/
theorem takeEngineTick_bus (s : State) : (takeEngineTick s).bus = s.bus := by
  have hcountdown (u : State) (g : Fin 8) : (countdownAt u g).bus = u.bus := by
    unfold countdownAt
    dsimp only
    split
    · split
      · exact captureCause_bus g _ _
      · rfl
    · rfl
  exact (foldl_frame State.bus _ hcountdown groupIds _).trans (applySource_bus _ _ s)

/-! ## The Snapshot Queue -/

/-- A draft judged. -/
theorem takeDraft_bus (d : Draft) (s : State) : (takeDraft d s).bus = s.bus := by
  obtain h | h | h := takeDraft_cases d s
  · rw [h, placeDraft_frame]
  · rw [h]
    rfl
  · rw [h]
    rfl

/-- A WITHDRAW at the queue. -/
theorem takeWithdraw_bus (g : Fin 8) (s : State) : (takeWithdraw g s).bus = s.bus := by
  unfold takeWithdraw
  split
  · exact grantStep_blind.bus (abandonDraft g s)
  · rfl

end Sys2Proof.Machine
end

section
/-! SUPPORT. What each of the 64 rows is: a host access, the arrival of an event or a message, or one of the events of the bus
cycle and of the resets. Said once for every row, so that a statement about all commands has a case for each form. -/

namespace Sys2Proof.Machine

/-! ## The forms -/

/-- The rows of `row`, one for each phase of a bus cycle, are the access `acc`, whose effect and whose test neither read nor
change the bus; the row names an event of the part where the access is its own. -/
structure AccessRow (row : CyclePhase → Instr) (acc : Access) (mine : State → Bool) (effect : State → State) : Prop where
  run (c : CyclePhase) (s : State) : exec (row c) s = hostAccess c acc mine effect s
  access (c : CyclePhase) : accessOf (row c) = some acc
  blind : BusBlind effect
  mine_withBus (s : State) (b : Bus) : mine (s.withBus b) = mine s
  wellFormed (c : CyclePhase) (s : State) : mine s = true → wellFormed (row c) = true

/-- The rows of `row` are the access `acc`, which is theirs in every state that meets `own`. -/
def IsAccess (row : CyclePhase → Instr) (acc : Access) (own : State → Prop) : Prop :=
  ∃ mine effect, AccessRow row acc mine effect ∧ ∀ s : State, own s → mine s = true

/-- The answer is that of an event which leaves the bus, or of one that cannot come (log entry 2). -/
def State.Arrival (s : State) (o : Answered) : Prop := o = .next s ∨ ∃ f : State → State, o = event s f ∧ (f s).bus = s.bus

/-- What a row can be. -/
inductive RowForm : Instr → Prop
  | access {row : CyclePhase → Instr} {acc : Access} {own : State → Prop} (c : CyclePhase) (h : IsAccess row acc own) :
      RowForm (row c)
  | arrival {i : Instr} (h : ∀ s : State, s.Arrival (exec i s)) : RowForm i
  | bothStrobesLow : RowForm .bothStrobesLow
  | busCycleEnd (csHigh : Bool) : RowForm (.busCycleEnd csHigh)
  | heldCyclePassedOn : RowForm .heldCyclePassedOn
  | resetnAsserted : RowForm .resetnAsserted
  | powerUp : RowForm .powerUp
  | resetRecoveryEnd (c : RecoveryPhase) : RowForm (.resetRecoveryEnd c)

/-! ## Arrivals -/

section Arrivals

variable {s : State}

theorem arrival_none : s.Arrival (.next s) := .inl rfl

theorem arrival_event {f : State → State} (h : (f s).bus = s.bus) : s.Arrival (event s f) := .inr ⟨f, rfl, h⟩

/-- An event that comes under a condition alone. -/
theorem arrival_eventIf {p : Prop} [Decidable p] {f : State → State} (h : (f s).bus = s.bus) :
    s.Arrival (if p then event s f else .next s) := by
  split
  · exact arrival_event h
  · exact arrival_none

/-- An answer that arrives and leaves the bus. -/
theorem arrival_answer {kind : AnswerKind} {f : Fin 8 → State → State} (h : ∀ (g : Fin 8) (u : State), (f g u).bus = u.bus) :
    s.Arrival (answerArrives kind f s) := by
  unfold answerArrives
  split
  · exact arrival_none
  · exact arrival_event (h _ (popAnswer s))

variable (s)

theorem intervalExpiry_arrival : s.Arrival (execIntervalExpiry s) := by
  unfold execIntervalExpiry
  split
  · exact arrival_none
  · exact arrival_event rfl

theorem lineChange_arrival (n : Fin 16) : s.Arrival (execLineChange n s) :=
  arrival_event (by rw [changeLine_eq]; rfl)

theorem receiverTick_arrival : s.Arrival (execReceiverTick s) := by
  unfold execReceiverTick
  split
  · exact arrival_none
  · exact arrival_event (takeReceiverTick_bus _)

theorem sourceEvent_arrival (path : SourcePath) : s.Arrival (execSourceEvent path s) := by
  unfold execSourceEvent
  split <;> rename_i hfront
  · exact arrival_none
  · refine arrival_event ((applySource_bus _ _ _).trans ?_)
    cases path <;>
    · simp only [frontSource] at hfront
      split at hfront <;> cases hfront
      rfl

theorem engineTick_arrival : s.Arrival (execEngineTick s) := by
  unfold execEngineTick
  split
  · exact arrival_none
  · exact arrival_event (takeEngineTick_bus _)

theorem overflowEvent_arrival : s.Arrival (execOverflowEvent s) := by
  unfold execOverflowEvent
  split
  · exact arrival_none
  · exact arrival_event (applySource_bus _ _ _)

theorem placedEvent_arrival : s.Arrival (execPlacedEvent s) := by
  unfold execPlacedEvent
  split
  · exact arrival_none
  · exact arrival_event (applySource_bus _ _ _)

theorem agentDown_arrival : s.Arrival (execAgentDown s) := by
  unfold execAgentDown
  split
  · exact arrival_event (State.mapCounters_bus _ _)
  · exact arrival_none

theorem chainRequest_arrival : s.Arrival (execChainRequest s) := by
  unfold execChainRequest
  split
  · exact arrival_none
  · exact arrival_event (takeChainRequest_bus _ _)

theorem answerTaken_arrival : s.Arrival (execTaken s) := arrival_answer fun _ _ => rfl

theorem answerWaiting_arrival : s.Arrival (execWaiting s) := arrival_answer fun _ _ => rfl

theorem answerRefused_arrival : s.Arrival (execRefused s) := arrival_answer fun _ _ => rfl

theorem answerPlaced_arrival : s.Arrival (execPlaced s) := arrival_answer fun _ _ => rfl

theorem answerAbandoned_arrival : s.Arrival (execAbandoned s) := arrival_answer fun _ _ => rfl

theorem draft_arrival : s.Arrival (execDraft s) := by
  unfold execDraft
  split
  · exact arrival_event (takeDraft_bus _ _)
  · exact arrival_none

theorem withdraw_arrival : s.Arrival (execWithdraw s) := by
  unfold execWithdraw
  split
  · exact arrival_event (takeWithdraw_bus _ _)
  · exact arrival_none

theorem frontNotice_bus {s t : State} {r : Reporter} {m : Notice} (h : frontNotice r s = some (m, t)) : t.bus = s.bus := by
  rw [frontNotice_frame h]

theorem errorReport_arrival (r : Reporter) : s.Arrival (execErrorReport r s) := by
  unfold execErrorReport
  split <;> rename_i hfront
  · have hbus := frontNotice_bus hfront
    exact arrival_event hbus
  · exact arrival_none

theorem statusEvent_arrival (r : Reporter) : s.Arrival (execStatusEvent r s) := by
  unfold execStatusEvent
  split <;> rename_i hfront
  · have hbus := frontNotice_bus hfront
    exact arrival_event hbus
  · exact arrival_none

end Arrivals

/-! ## Commands and the registers with rows of their own -/

/-- Rows that are an access in every state. -/
theorem isAccess_of_hostAccess {row : CyclePhase → Instr} {acc : Access} {effect : State → State}
    (hrun : ∀ (c : CyclePhase) (s : State), exec (row c) s = hostAccess c acc (fun _ => true) effect s)
    (hacc : ∀ c : CyclePhase, accessOf (row c) = some acc) (hblind : BusBlind effect)
    (hwf : ∀ c : CyclePhase, wellFormed (row c) = true) : IsAccess row acc fun _ => True :=
  ⟨_, _, ⟨hrun, hacc, hblind, fun _ _ => rfl, fun c _ _ => hwf c⟩, fun _ _ => rfl⟩

/-- Rows that are an access for some words or offsets alone, those that are well formed. -/
theorem isAccess_of_guard {row : CyclePhase → Instr} {acc : Access} {effect : State → State} {guard : Bool}
    (hrun : ∀ (c : CyclePhase) (s : State), exec (row c) s = hostAccess c acc (fun _ => guard) effect s)
    (hacc : ∀ c : CyclePhase, accessOf (row c) = some acc) (hblind : BusBlind effect)
    (hwf : ∀ c : CyclePhase, wellFormed (row c) = guard) : IsAccess row acc fun _ => guard = true :=
  ⟨_, _, ⟨hrun, hacc, hblind, fun _ _ => rfl, fun c _ h => (hwf c).trans h⟩, fun _ h => h⟩

/-- Rows that are a command to a blind owner. -/
theorem isAccess_of_command {row : CyclePhase → Instr} {word : Word} {owner : State → State × ResultCode}
    (hrun : ∀ (c : CyclePhase) (s : State),
      exec (row c) s = hostAccess c (.write 0x04 word) (fun _ => true) (fun t => latchResult (owner t)) s)
    (hacc : ∀ c : CyclePhase, accessOf (row c) = some (.write 0x04 word)) (howner : BlindOwner owner)
    (hwf : ∀ c : CyclePhase, wellFormed (row c) = true) : IsAccess row (.write 0x04 word) fun _ => True :=
  isAccess_of_hostAccess hrun hacc howner.latchResult hwf

section Commands

variable (op : BitVec 8) (g : Fin 8) (w : Word)

theorem timebaseStart_access : IsAccess (.timebaseStart · op) (.write 0x04 (cmdWord 0x20 op)) fun _ => True :=
  isAccess_of_command (fun _ _ => rfl) (fun _ => rfl) timebaseStart_blind fun _ => rfl

theorem timebaseStop_access : IsAccess (.timebaseStop · op) (.write 0x04 (cmdWord 0x21 op)) fun _ => True :=
  isAccess_of_command (fun _ _ => rfl) (fun _ => rfl) timebaseStop_blind fun _ => rfl

theorem linkRestart_access : IsAccess (.linkRestart · op) (.write 0x04 (cmdWord 0x32 op)) fun _ => True :=
  isAccess_of_command (fun _ _ => rfl) (fun _ => rfl) linkRestart_blind fun _ => rfl

theorem linkClearCounts_access : IsAccess (.linkClearCounts · op) (.write 0x04 (cmdWord 0x33 op)) fun _ => True :=
  isAccess_of_command (fun _ _ => rfl) (fun _ => rfl) linkClearCounts_blind fun _ => rfl

theorem countingReset_access : IsAccess (.countingReset · op) (.write 0x04 (cmdWord 0x40 op)) fun _ => True :=
  isAccess_of_command (fun _ _ => rfl) (fun _ => rfl) countingReset_blind fun _ => rfl

theorem queueRelease_access : IsAccess (.queueRelease · op) (.write 0x04 (cmdWord 0x10 op)) fun _ => True :=
  isAccess_of_command (fun _ _ => rfl) (fun _ => rfl) queueRelease_blind fun _ => rfl

theorem queueFlush_access : IsAccess (.queueFlush · op) (.write 0x04 (cmdWord 0x11 op)) fun _ => True :=
  isAccess_of_command (fun _ _ => rfl) (fun _ => rfl) queueFlush_blind fun _ => rfl

theorem groupStart_access : IsAccess (.groupStart · g) (.write 0x04 (groupWord 0x01 g)) fun _ => True :=
  isAccess_of_command (fun _ _ => rfl) (fun _ => rfl) (groupStart_blind g) fun _ => rfl

theorem groupHold_access : IsAccess (.groupHold · g) (.write 0x04 (groupWord 0x02 g)) fun _ => True :=
  isAccess_of_command (fun _ _ => rfl) (fun _ => rfl) (groupHold_blind g) fun _ => rfl

theorem groupResume_access : IsAccess (.groupResume · g) (.write 0x04 (groupWord 0x03 g)) fun _ => True :=
  isAccess_of_command (fun _ _ => rfl) (fun _ => rfl) (groupResume_blind g) fun _ => rfl

theorem groupStop_access : IsAccess (.groupStop · g) (.write 0x04 (groupWord 0x04 g)) fun _ => True :=
  isAccess_of_command (fun _ _ => rfl) (fun _ => rfl) (groupStop_blind g) fun _ => rfl

theorem groupCapture_access : IsAccess (.groupCapture · g) (.write 0x04 (groupWord 0x05 g)) fun _ => True :=
  isAccess_of_command (fun _ _ => rfl) (fun _ => rfl) (groupCapture_blind g) fun _ => rfl

theorem groupClear_access : IsAccess (.groupClear · g) (.write 0x04 (groupWord 0x06 g)) fun _ => True :=
  isAccess_of_command (fun _ _ => rfl) (fun _ => rfl) (groupClear_blind g) fun _ => rfl

theorem groupReload_access : IsAccess (.groupReload · g) (.write 0x04 (groupWord 0x07 g)) fun _ => True :=
  isAccess_of_command (fun _ _ => rfl) (fun _ => rfl) (groupReload_blind g) fun _ => rfl

theorem deviceReset_access (levels : Word) :
    IsAccess (.deviceReset · op levels) (.write 0x04 (cmdWord 0x4F op)) fun _ => True :=
  isAccess_of_hostAccess (fun _ _ => rfl) (fun _ => rfl) (fun _ _ => rfl) fun _ => rfl

theorem unknownCommand_access : IsAccess (.unknownCommand · w) (.write 0x04 w) fun _ => unknownWord w = true :=
  isAccess_of_guard (fun _ _ => rfl) (fun _ => rfl) (fun _ _ => rfl) fun _ => rfl

theorem groupOperandRange_access : IsAccess (.groupOperandRange · w) (.write 0x04 w) fun _ => groupRangeWord w = true :=
  isAccess_of_guard (fun _ _ => rfl) (fun _ => rfl) (fun _ _ => rfl) fun _ => rfl

theorem registerWrite_access (offset : BitVec 6) :
    IsAccess (.registerWrite · offset w) (.write offset w) fun _ => plainOffset offset = true :=
  isAccess_of_guard (fun _ _ => rfl) (fun _ => rfl) (fun _ _ => rfl) fun _ => rfl

theorem watermarkWrite_access : IsAccess (.watermarkWrite · w) (.write 0x0C w) fun _ => True :=
  isAccess_of_hostAccess (fun _ _ => rfl) (fun _ => rfl) (writeWatermark_blind w).latchResult fun _ => rfl

theorem irqstatWrite_access : IsAccess (.irqstatWrite · w) (.write 0x02 w) fun _ => True :=
  isAccess_of_hostAccess (fun _ _ => rfl) (fun _ => rfl) (fun _ _ => rfl) fun _ => rfl

theorem irqenWrite_access : IsAccess (.irqenWrite · w) (.write 0x03 w) fun _ => True :=
  isAccess_of_hostAccess (fun _ _ => rfl) (fun _ => rfl) (fun _ _ => rfl) fun _ => rfl

theorem tableFetch_access (offset : BitVec 6) : IsAccess (.tableFetch · offset) (.read offset) fun _ => True :=
  isAccess_of_hostAccess (fun _ _ => rfl) (fun _ => rfl) (readWindow_blind offset) fun _ => rfl

end Commands

/-! ## Commits -/

/-- The rows of `row` are the commit of word `w`, which is theirs while a field of `own` is selected (R168; log entry 7). -/
abbrev IsCommit (row : CyclePhase → Instr) (w : Word) (own : Option Selection → Prop) : Prop :=
  IsAccess row (.write 0x08 w) fun s => own s.selected

/-- Rows that are a commit to the owner of the selected field, where each owner they have is blind. -/
theorem isCommit_of_tableWrite {row : CyclePhase → Instr} {w : Word}
    {owners : Option Selection → Option (Latch → State → State × ResultCode)} {own : Option Selection → Prop}
    (hrun : ∀ (c : CyclePhase) (s : State), exec (row c) s = tableWrite c w owners s)
    (hacc : ∀ c : CyclePhase, accessOf (row c) = some (.write 0x08 w)) (hwf : ∀ c : CyclePhase, wellFormed (row c) = true)
    (hblind : ∀ sel f, owners sel = some f → ∀ v : Latch, BlindOwner (f v))
    (hown : ∀ sel, own sel → (owners sel).isSome = true) : IsCommit row w own := by
  refine ⟨_, _, ⟨hrun, hacc, fun s b => ?_, fun _ _ => rfl, fun c _ _ => hwf c⟩, fun s h => hown _ h⟩
  have hsel : (s.withBus b).selected = s.selected := rfl
  rw [hsel]
  unfold commitTo
  split <;> rename_i hf
  · exact BlindOwner.commit (hblind _ _ hf) s b
  · rfl

section Commits

variable (w : Word)

theorem periodCodeWrite_commit : IsCommit (.periodCodeWrite · w) w (· = some (.timebase .periodCode)) :=
  isCommit_of_tableWrite (fun c s => (rfl : execPeriodCodeWrite c w s = _)) (fun _ => rfl) (fun _ => rfl)
    (fun _ f hf => by split at hf <;> cases hf; exact writePeriodCode_blind) (by rintro _ rfl; rfl)

theorem epochWrite_commit : IsCommit (.epochWrite · w) w (· = some (.timebase .epoch)) :=
  isCommit_of_tableWrite (fun c s => (rfl : execEpochWrite c w s = _)) (fun _ => rfl) (fun _ => rfl)
    (fun _ f hf => by split at hf <;> cases hf; exact writeEpoch_blind) (by rintro _ rfl; rfl)

theorem lineFieldWrite_commit : IsCommit (.lineFieldWrite · w) w fun sel => ∃ n f, sel = some (.line n f) :=
  isCommit_of_tableWrite (fun c s => (rfl : execLineFieldWrite c w s = _)) (fun _ => rfl) (fun _ => rfl)
    (fun _ f hf => by split at hf <;> cases hf; exact writeLine_blind _ _) (by rintro _ ⟨n, f, rfl⟩; rfl)

theorem receiverEnabledWrite_commit : IsCommit (.receiverEnabledWrite · w) w fun sel => ∃ f, sel = some (.receiver f) :=
  isCommit_of_tableWrite (fun c s => (rfl : execReceiverEnabledWrite c w s = _)) (fun _ => rfl) (fun _ => rfl)
    (fun _ f hf => by split at hf <;> cases hf; exact writeReceiver_blind _) (by rintro _ ⟨f, rfl⟩; rfl)

theorem agentEnabledWrite_commit : IsCommit (.agentEnabledWrite · w) w fun sel => ∃ a, sel = some (.agent a .enabled) :=
  isCommit_of_tableWrite (fun c s => (rfl : execAgentEnabledWrite c w s = _)) (fun _ => rfl) (fun _ => rfl)
    (fun _ f hf => by split at hf <;> cases hf; exact writeAgentEnabled_blind _) (by rintro _ ⟨a, rfl⟩; rfl)

theorem silenceLimitWrite_commit :
    IsCommit (.silenceLimitWrite · w) w fun sel => ∃ a, sel = some (.agent a .silenceLimit) :=
  isCommit_of_tableWrite (fun c s => (rfl : execSilenceLimitWrite c w s = _)) (fun _ => rfl) (fun _ => rfl)
    (fun _ f hf => by split at hf <;> cases hf; exact writeSilenceLimit_blind _) (by rintro _ ⟨a, rfl⟩; rfl)

theorem counterFieldWrite_commit :
    IsCommit (.counterFieldWrite · w) w fun sel => ∃ k f, sel = some (.counter k f) ∧ isPlainField f = true :=
  isCommit_of_tableWrite (fun c s => (rfl : execCounterFieldWrite c w s = _)) (fun _ => rfl) (fun _ => rfl)
    (fun _ f hf => by
      split at hf
      · split at hf <;> cases hf
        exact writeCounter_blind _ _
      · cases hf)
    (by rintro _ ⟨k, f, rfl, hf⟩; simp only [hf, if_true, Option.isSome_some])

theorem counterGroupWrite_commit : IsCommit (.counterGroupWrite · w) w fun sel => ∃ k, sel = some (.counter k .group) :=
  isCommit_of_tableWrite (fun c s => (rfl : execCounterGroupWrite c w s = _)) (fun _ => rfl) (fun _ => rfl)
    (fun _ f hf => by split at hf <;> cases hf; exact writeMembership_blind _) (by rintro _ ⟨k, rfl⟩; rfl)

theorem valuePresetWrite_commit : IsCommit (.valuePresetWrite · w) w fun sel =>
    ∃ k, sel = some (.counter k .value) ∨ sel = some (.counter k .preset) :=
  isCommit_of_tableWrite (fun c s => (rfl : execValuePresetWrite c w s = _)) (fun _ => rfl) (fun _ => rfl)
    (fun _ f hf => by split at hf <;> cases hf <;> exact fun v => writeContents_blind _ v _)
    (by rintro _ ⟨k, rfl | rfl⟩ <;> rfl)

theorem groupFieldWrite_commit : IsCommit (.groupFieldWrite · w) w fun sel => ∃ g f, sel = some (.group g f) :=
  isCommit_of_tableWrite (fun c s => (rfl : execGroupFieldWrite c w s = _)) (fun _ => rfl) (fun _ => rfl)
    (fun _ f hf => by split at hf <;> cases hf; exact writeGroup_blind _ _) (by rintro _ ⟨g, f, rfl⟩; rfl)

theorem readOnlyTableWrite_commit : IsCommit (.readOnlyTableWrite · w) w fun sel =>
    (∃ k f, sel = some (.error k f)) ∨ (∃ f, sel = some (.head f)) ∨ ∃ p f, sel = some (.headValue p f) :=
  isCommit_of_tableWrite (fun c s => (rfl : execReadOnlyTableWrite c w s = _)) (fun _ => rfl) (fun _ => rfl)
    (fun _ f hf => by split at hf <;> cases hf <;> exact fun _ => .refuse .readonly)
    (by rintro _ (⟨k, f, rfl⟩ | ⟨f, rfl⟩ | ⟨p, f, rfl⟩) <;> rfl)

theorem readonlyFieldWrite_commit : IsCommit (.readonlyFieldWrite · w) w fun sel =>
    (∃ a f, sel = some (.agent a f) ∧ isReadOnlyAgentField f = true) ∨ sel = some (.timebase .state) :=
  isCommit_of_tableWrite (fun c s => (rfl : execReadonlyFieldWrite c w s = _)) (fun _ => rfl) (fun _ => rfl)
    (fun _ f hf => by
      split at hf
      · split at hf <;> cases hf
        exact fun _ => .refuse .readonly
      · cases hf
        exact fun _ => .refuse .readonly
      · cases hf)
    (by
      rintro _ (⟨a, f, rfl, hf⟩ | rfl)
      · simp only [hf, if_true, Option.isSome_some]
      · rfl)

theorem tableCommitRange_commit : IsCommit (.tableCommitRange · w) w (· = none) :=
  isCommit_of_tableWrite (fun c s => (rfl : execTableCommitRange c w s = _)) (fun _ => rfl) (fun _ => rfl)
    (fun _ f hf => by split at hf <;> cases hf; exact fun _ => .refuse .range) (by rintro _ rfl; rfl)

end Commits

/-! ## Every row -/

/-- Each of the 64 rows has a form. -/
theorem rowForm (i : Instr) : RowForm i := by
  cases i with
  | intervalExpiry => exact .arrival intervalExpiry_arrival
  | timebaseStart c op => exact .access c (timebaseStart_access op)
  | timebaseStop c op => exact .access c (timebaseStop_access op)
  | periodCodeWrite c w => exact .access c (periodCodeWrite_commit w)
  | epochWrite c w => exact .access c (epochWrite_commit w)
  | lineChange n => exact .arrival fun s => lineChange_arrival s n
  | lineFieldWrite c w => exact .access c (lineFieldWrite_commit w)
  | frameComplete bit => exact .arrival fun s => arrival_eventIf (takeBit_bus bit s)
  | quietTimeExpiry => exact .arrival fun s => arrival_event (expireQuiet_bus s)
  | receiverTick => exact .arrival receiverTick_arrival
  | agentLost a => exact .arrival fun s => arrival_eventIf (takeReceiverTick_bus (popReceiverTick s))
  | receiverEnabledWrite c w => exact .access c (receiverEnabledWrite_commit w)
  | agentEnabledWrite c w => exact .access c (agentEnabledWrite_commit w)
  | silenceLimitWrite c w => exact .access c (silenceLimitWrite_commit w)
  | linkRestart c op => exact .access c (linkRestart_access op)
  | linkClearCounts c op => exact .access c (linkClearCounts_access op)
  | sourceEvent path => exact .arrival fun s => sourceEvent_arrival s path
  | engineTick => exact .arrival engineTick_arrival
  | periodicCause g => exact .arrival fun s => arrival_eventIf (takeEngineTick_bus (popEngineTick s))
  | overflowEvent => exact .arrival overflowEvent_arrival
  | placedEvent => exact .arrival placedEvent_arrival
  | agentDown => exact .arrival agentDown_arrival
  | groupStart c g => exact .access c (groupStart_access g)
  | groupHold c g => exact .access c (groupHold_access g)
  | groupResume c g => exact .access c (groupResume_access g)
  | groupStop c g => exact .access c (groupStop_access g)
  | groupCapture c g => exact .access c (groupCapture_access g)
  | groupClear c g => exact .access c (groupClear_access g)
  | groupReload c g => exact .access c (groupReload_access g)
  | countingReset c op => exact .access c (countingReset_access op)
  | chainRequest => exact .arrival chainRequest_arrival
  | answerTaken => exact .arrival answerTaken_arrival
  | answerWaiting => exact .arrival answerWaiting_arrival
  | answerRefused => exact .arrival answerRefused_arrival
  | answerPlaced => exact .arrival answerPlaced_arrival
  | answerAbandoned => exact .arrival answerAbandoned_arrival
  | counterFieldWrite c w => exact .access c (counterFieldWrite_commit w)
  | counterGroupWrite c w => exact .access c (counterGroupWrite_commit w)
  | valuePresetWrite c w => exact .access c (valuePresetWrite_commit w)
  | groupFieldWrite c w => exact .access c (groupFieldWrite_commit w)
  | draft => exact .arrival draft_arrival
  | withdraw => exact .arrival withdraw_arrival
  | queueRelease c op => exact .access c (queueRelease_access op)
  | queueFlush c op => exact .access c (queueFlush_access op)
  | watermarkWrite c w => exact .access c (watermarkWrite_access w)
  | errorReport r => exact .arrival fun s => errorReport_arrival s r
  | statusEvent r => exact .arrival fun s => statusEvent_arrival s r
  | irqstatWrite c w => exact .access c (irqstatWrite_access w)
  | irqenWrite c w => exact .access c (irqenWrite_access w)
  | tableFetch c offset => exact .access c (tableFetch_access offset)
  | readOnlyTableWrite c w => exact .access c (readOnlyTableWrite_commit w)
  | unknownCommand c w => exact .access c (unknownCommand_access w)
  | registerWrite c offset w => exact .access c (registerWrite_access w offset)
  | bothStrobesLow => exact .bothStrobesLow
  | busCycleEnd csHigh => exact .busCycleEnd csHigh
  | heldCyclePassedOn => exact .heldCyclePassedOn
  | deviceReset c op levels => exact .access c (deviceReset_access op levels)
  | resetnAsserted => exact .resetnAsserted
  | resetRecoveryEnd c => exact .resetRecoveryEnd c
  | powerUp => exact .powerUp
  | tclkRisingEdge bit => exact .arrival fun s => arrival_event (takeBit_bus bit s)
  | tableCommitRange c w => exact .access c (tableCommitRange_commit w)
  | groupOperandRange c w => exact .access c (groupOperandRange_access w)
  | readonlyFieldWrite c w => exact .access c (readonlyFieldWrite_commit w)

end Sys2Proof.Machine
end

section
/-! What holds of every command alike, by the form of its row: it completes (R163), it leaves no trace in reset and none but on
the bus in recovery (R175), and it keeps the bus sound (section 9.2, R158, R159). -/

namespace Sys2Proof.Machine

/-! ## Every command completes -/

/-- Settles O1: a step is defined so. -/
theorem stepRunsFrontCommand : Obligations.StepRunsFrontCommand := ⟨fun _ _ _ => rfl, fun _ => rfl⟩

/-- An arrival completes. -/
theorem State.Arrival.completes {s : State} {o : Answered} (h : s.Arrival o) : ∃ t : State, o = .next t := by
  obtain rfl | ⟨f, rfl, -⟩ := h
  · exact ⟨s, rfl⟩
  · exact event_completes s f

/-- A cycle with both strobes low is an event at the bus alone (R159). -/
theorem bothStrobesLow_event (s : State) : exec .bothStrobesLow s = event s fun t => t.withBus t.bus.bothStrobes := rfl

/-- The passing on of a held cycle is an event at the bus alone (R159). -/
theorem heldCyclePassedOn_event (s : State) : exec .heldCyclePassedOn s = event s fun t => t.withBus t.bus.passOn := rfl

theorem busCycleEnd_completes (csHigh : Bool) (s : State) : ∃ t : State, execBusCycleEnd csHigh s = .next t := by
  unfold execBusCycleEnd
  split <;> exact ⟨_, rfl⟩

theorem resetRecoveryEnd_completes (c : RecoveryPhase) (s : State) : ∃ t : State, execResetRecoveryEnd c s = .next t := by
  unfold execResetRecoveryEnd
  split <;> exact ⟨_, rfl⟩

/-- Settles O2, by the form of the row. -/
theorem noCommandStops : Obligations.NoCommandStops := fun i s => by
  cases rowForm i with
  | access c h =>
    obtain ⟨mine, effect, hrow, -⟩ := h
    rw [hrow.run c s]
    exact hostAccess_completes c _ mine effect s
  | arrival h => exact (h s).completes
  | bothStrobesLow => exact bothStrobesLow_event s ▸ event_completes s _
  | busCycleEnd csHigh => exact busCycleEnd_completes csHigh s
  | heldCyclePassedOn => exact heldCyclePassedOn_event s ▸ event_completes s _
  | resetnAsserted => exact ⟨_, rfl⟩
  | powerUp => exact ⟨_, rfl⟩
  | resetRecoveryEnd c => exact resetRecoveryEnd_completes c s

/-! ## In reset and in recovery -/

/-- While the part does not run, an arrival leaves the state. -/
theorem State.Arrival.notRunning {s : State} {o : Answered} (h : s.Arrival o) (hm : s.mode ≠ .running) : o = .next s := by
  obtain rfl | ⟨f, rfl, -⟩ := h
  · rfl
  · exact event_notRunning hm

/-- In reset no phase of an access comes. -/
theorem hostAccess_resetting {s : State} {c : CyclePhase} {acc : Access} {mine : State → Bool} {effect : State → State}
    (h : s.mode = .resetting) : hostAccess c acc mine effect s = .next s := by
  have hready : s.busReady = false := by simp [State.busReady, h]
  have hpassed : s.passedOn acc = false := by simp [State.passedOn, h]
  have hrecognise (cut csLow : Bool) : s.bus.recognise s.mode acc cut csLow = s.bus := by rw [h]; rfl
  have hcut (csHigh : Bool) : s.bus.cutLatest s.mode acc csHigh = s.bus := by rw [h]; rfl
  cases c with
  | whole => simp only [hostAccess, hready, Bool.false_and, Bool.false_eq_true, if_false]
  | begun =>
    simp only [hostAccess, hrecognise]
    rfl
  | cutShort csHigh =>
    simp only [hostAccess, hrecognise, hcut]
    exact ite_self (Host.Outcome.next s)
  | taken => simp only [hostAccess, hpassed, Bool.false_and, Bool.false_eq_true, if_false]

/-- While the part does not run, an access changes the bus alone. -/
theorem hostAccess_notRunning {s : State} {c : CyclePhase} {acc : Access} {mine : State → Bool} {effect : State → State}
    (h : s.mode ≠ .running) : ∃ b : Bus, hostAccess c acc mine effect s = .next { s with bus := b } := by
  obtain ⟨t, ht⟩ := hostAccess_completes c acc mine effect s
  obtain ⟨b, rfl⟩ | ⟨hm, -⟩ := hostAccess_cases ht
  · exact ⟨b, ht⟩
  · exact absurd hm h

/-- Settles O53, by the form of the row; the resets and the two ends of the recovery time are apart. -/
theorem nothingHappensInReset : Obligations.NothingHappensInReset := fun i s hrec hreset hpower => by
  have hnot {m : PartMode} (h : s.mode = m) (hm : m ≠ .running) : s.mode ≠ .running := h ▸ hm
  cases rowForm i with
  | access c h =>
    obtain ⟨mine, effect, hrow, -⟩ := h
    rw [hrow.run c s]
    exact ⟨hostAccess_resetting, fun hm => hostAccess_notRunning (hnot hm nofun)⟩
  | arrival h =>
    exact ⟨fun hm => (h s).notRunning (hnot hm nofun), fun hm => ⟨s.bus, (h s).notRunning (hnot hm nofun)⟩⟩
  | bothStrobesLow =>
    rw [bothStrobesLow_event]
    exact ⟨fun hm => event_notRunning (hnot hm nofun), fun hm => ⟨s.bus, event_notRunning (hnot hm nofun)⟩⟩
  | busCycleEnd csHigh =>
    exact ⟨fun hm => by simp only [exec, execBusCycleEnd, hm],
      fun hm => ⟨s.bus.endCycle csHigh, by simp only [exec, execBusCycleEnd, hm, State.withBus]⟩⟩
  | heldCyclePassedOn =>
    rw [heldCyclePassedOn_event]
    exact ⟨fun hm => event_notRunning (hnot hm nofun), fun hm => ⟨s.bus, event_notRunning (hnot hm nofun)⟩⟩
  | resetnAsserted => exact absurd rfl hreset
  | powerUp => exact absurd rfl hpower
  | resetRecoveryEnd c => exact absurd rfl (hrec c)

/-! ## The bus stays sound -/

/-- Out of PENDING a sound bus has no cycle. -/
theorem Bus.Sound.noCycles {b : Bus} (h : b.Sound) (hc : b.cycle ≠ .pending) : b.unanswered = none ∧ b.held = [] := by
  have hnil : b.cycles = [] := by_contra fun hne => hc (h.1.mpr hne)
  simpa [Bus.cycles] using hnil

/-- A bus with no cycle is sound out of PENDING, where it drives data in DONE alone. -/
theorem Bus.sound_of_noCycles {b : Bus} (hu : b.unanswered = none) (hh : b.held = []) (hc : b.cycle ≠ .pending)
    (hd : b.data ≠ none → b.cycle = .done) : b.Sound := by
  have hnil : b.cycles = [] := by rw [Bus.cycles, hu, hh]; rfl
  exact ⟨by simp [hnil, hc], by simp [hnil], hd⟩

/-- Soundness in PENDING: some cycle, all but the latest cut, and no data driven. -/
theorem Bus.sound_of_pending {b : Bus} (hp : b.cycle = .pending) (hne : b.cycles ≠ [])
    (hcut : ∀ x ∈ b.cycles.dropLast, x.cut = true) (hd : b.data = none) : b.Sound := ⟨by simp [hp, hne], hcut, fun h => absurd hd h⟩

/-- In PENDING a sound bus drives no data. -/
theorem Bus.Sound.noData {b : Bus} (h : b.Sound) (hc : b.cycle ≠ .done) : b.data = none :=
  by_contra fun hd => hc (h.2.2 hd)

/-- With no strobe low every cycle has been cut. -/
theorem Bus.cut_of_strobeHigh {b : Bus} (h : b.strobeHigh = true) : ∀ x ∈ b.cycles, x.cut = true := by
  obtain ⟨hu, hh⟩ : b.unanswered.all (·.cut) = true ∧ b.held.all (·.cut) = true := by simpa [Bus.strobeHigh] using h
  intro x hx
  obtain hx | hx := List.mem_append.mp hx
  · cases hun : b.unanswered with
    | none => simp [hun] at hx
    | some y =>
      rw [hun] at hu hx
      simp at hu hx
      exact hx ▸ hu
  · exact List.all_eq_true.mp hh x hx

/-- A cycle that is held joins the others, which have all been cut. -/
theorem Bus.hold_sound {b : Bus} {x : BusCycle} {cs : Bool} (h : b.strobeHigh = true) :
    Bus.Sound { b with cycle := .pending, held := b.held ++ [x], csLow := cs, bothLow := false, data := none } := by
  have hcycles : Bus.cycles { b with cycle := .pending, held := b.held ++ [x], csLow := cs, bothLow := false, data := none } =
      b.cycles ++ [x] := (List.append_assoc ..).symm
  refine Bus.sound_of_pending rfl ?_ ?_ rfl
  · simp [hcycles]
  · rw [hcycles, List.dropLast_concat]
    exact Bus.cut_of_strobeHigh h

/-- A cycle recognised. -/
theorem Bus.recognise_sound {b : Bus} (h : b.Sound) (mode : PartMode) (acc : Access) (cut cs : Bool) :
    (b.recognise mode acc cut cs).Sound := by
  have hpass (hc : b.cycle ≠ .pending) : Bus.Sound
      { b with cycle := .pending, unanswered := some ⟨acc, cut⟩, csLow := cs, bothLow := false, data := none } := by
    refine Bus.sound_of_pending rfl ?_ ?_ rfl <;> simp [Bus.cycles, (h.noCycles hc).2]
  unfold Bus.recognise
  split
  · exact h
  · exact hpass (by simp [*])
  · exact hpass (by simp [*])
  · split
    · exact Bus.hold_sound ‹_›
    · exact h

/-- What cutting the latest cycle short can do: nothing, or the last cycle held is cut, or with none held the one passed on. -/
theorem Bus.cutLatest_cases (b : Bus) (mode : PartMode) (acc : Access) (csHigh : Bool) :
    b.cutLatest mode acc csHigh = b ∨
      (∃ earlier a, b.held = earlier ++ [⟨a, false⟩] ∧
        b.cutLatest mode acc csHigh = { b with held := earlier ++ [⟨a, true⟩], csLow := !csHigh }) ∨
      ∃ a, b.held = [] ∧ b.unanswered = some ⟨a, false⟩ ∧
        b.cutLatest mode acc csHigh = { b with unanswered := some ⟨a, true⟩, csLow := !csHigh } := by
  unfold Bus.cutLatest
  split
  · exact .inl rfl
  · rename_i hlast
    split
    · exact .inr (.inl ⟨_, _, (List.dropLast_append_getLast? _ hlast).symm, rfl⟩)
    · exact .inl rfl
  · exact .inl rfl
  · rename_i hlast
    split
    · split
      · exact .inr (.inr ⟨_, List.getLast?_eq_none_iff.mp hlast, ‹_›, rfl⟩)
      · exact .inl rfl
    · exact .inl rfl

/-- The latest cycle cut short: the earlier ones stay as they are. -/
theorem Bus.cutLatest_sound {b : Bus} (h : b.Sound) (mode : PartMode) (acc : Access) (csHigh : Bool) :
    (b.cutLatest mode acc csHigh).Sound := by
  have hpending (hne : b.cycles ≠ []) : b.cycle = .pending ∧ b.data = none := by
    have hp := h.1.mpr hne
    exact ⟨hp, h.noData (by simp [hp])⟩
  obtain heq | ⟨earlier, a, hheld, heq⟩ | ⟨a, hheld, hun, heq⟩ := b.cutLatest_cases mode acc csHigh
  · rwa [heq]
  · have hcycles : b.cycles = (b.unanswered.toList ++ earlier) ++ [⟨a, false⟩] := by
      rw [Bus.cycles, hheld, List.append_assoc]
    obtain ⟨hp, hd⟩ := hpending (by simp [hcycles])
    have hcut := h.2.1
    rw [hcycles, List.dropLast_concat] at hcut
    rw [heq]
    have hcycles' : Bus.cycles { b with held := earlier ++ [⟨a, true⟩], csLow := !csHigh } =
        (b.unanswered.toList ++ earlier) ++ [⟨a, true⟩] := (List.append_assoc ..).symm
    refine Bus.sound_of_pending hp (by simp [hcycles']) ?_ hd
    rwa [hcycles', List.dropLast_concat]
  · obtain ⟨hp, hd⟩ := hpending (by simp [Bus.cycles, hun])
    rw [heq]
    refine Bus.sound_of_pending hp ?_ ?_ hd <;> simp [Bus.cycles, hheld]

/-- An answer latched, of an access that was unanswered: a cycle cut short goes, and a cycle with its strobe low was the only
one. -/
theorem Bus.answer_sound {b : Bus} (h : b.Sound) (word : Option Word) (hun : b.unanswered ≠ none) : (b.answer word).Sound := by
  obtain ⟨⟨a, cut⟩, hx⟩ := Option.ne_none_iff_exists'.mp hun
  have hcycles : b.cycles = ⟨a, cut⟩ :: b.held := by rw [Bus.cycles, hx]; rfl
  have hp : b.cycle = .pending := h.1.mpr (by simp [hcycles])
  have hd : b.data = none := h.noData (by simp [hp])
  have hcut := h.2.1
  rw [hcycles] at hcut
  cases cut with
  | true =>
    have heq : b.answer word = { b with unanswered := none, cycle := if b.held.isEmpty then .free else .pending } := by
      simp only [Bus.answer, hx]
    rw [heq]
    cases hheld : b.held with
    | nil => exact Bus.sound_of_noCycles rfl rfl nofun fun hne => absurd hd hne
    | cons y rest =>
      refine Bus.sound_of_pending rfl (by simp [Bus.cycles]) (fun x hmem => hcut x ?_) hd
      rw [hheld, List.dropLast_cons_cons]
      exact List.mem_cons_of_mem _ (by simpa [Bus.cycles] using hmem)
  | false =>
    have heq : b.answer word =
        { b with unanswered := none, cycle := .done, bothLow := false, csLow := true, data := word } := by
      simp only [Bus.answer, hx]
    have hheld : b.held = [] := by
      cases hh : b.held with
      | nil => rfl
      | cons y rest => exact absurd (hcut ⟨a, false⟩ (by simp [hh])) nofun
    rw [heq]
    exact Bus.sound_of_noCycles rfl hheld nofun fun _ => rfl

/-- A cycle with both strobes low. -/
theorem Bus.bothStrobes_sound {b : Bus} (h : b.Sound) : b.bothStrobes.Sound := by
  unfold Bus.bothStrobes
  split
  · split
    · exact h
    · exact h
  · rename_i hc
    obtain ⟨hu, hh⟩ := h.noCycles hc
    exact Bus.sound_of_noCycles hu hh nofun fun hne => absurd rfl hne

/-- The end of a cycle, or a move of CSn. -/
theorem Bus.endCycle_sound {b : Bus} (h : b.Sound) (csHigh : Bool) : (b.endCycle csHigh).Sound := by
  obtain ⟨hc, heq⟩ | ⟨-, -, heq⟩ | ⟨-, -, csLow, heq⟩ := endCycle_cases b csHigh
  · obtain ⟨hu, hh⟩ := h.noCycles (by simp [hc])
    rw [heq]
    exact Bus.sound_of_noCycles hu hh nofun fun hne => absurd rfl hne
  · rw [heq]
    exact h
  · rw [heq]
    exact h

/-- A held cycle passed on: the cycles are the same, in the same order. -/
theorem Bus.passOn_sound {b : Bus} (h : b.Sound) : b.passOn.Sound := by
  cases hu : b.unanswered with
  | some x => rwa [Bus.passOn_none (.inr (by simp [hu]))]
  | none =>
    cases hh : b.held with
    | nil => rwa [Bus.passOn_none (.inl hh)]
    | cons x rest =>
      have hcycles : Bus.cycles { b with unanswered := some x, held := rest } = b.cycles := by
        rw [Bus.cycles, Bus.cycles, hu, hh]
        rfl
      rw [Bus.passOn_cons hu hh, Bus.Sound, hcycles]
      exact h

/-- A host access, in whatever phase: its cycle is recognised, cut short or answered. -/
theorem hostAccess_sound {s t : State} {c : CyclePhase} {acc : Access} {mine : State → Bool} {effect : State → State}
    (hs : s.bus.Sound) (heff : BusBlind effect) (h : hostAccess c acc mine effect s = .next t) : t.bus.Sound := by
  obtain heq | ⟨cut, cs, heq⟩ | ⟨cs, heq⟩ | ⟨word, heq, hready⟩ | ⟨word, heq, hun⟩ := hostAccess_bus heff.bus h
  · rwa [heq]
  · exact heq ▸ Bus.recognise_sound hs _ _ cut cs
  · exact heq ▸ Bus.cutLatest_sound hs _ _ cs
  · have hc : s.bus.cycle ≠ .pending := by
      simp only [State.busReady, Bool.and_eq_true, decide_eq_true_eq] at hready
      exact hready.2
    exact heq ▸ Bus.sound_of_noCycles rfl (hs.noCycles hc).2 nofun fun _ => rfl
  · exact heq ▸ Bus.answer_sound hs word hun

/-- An arrival leaves the bus. -/
theorem State.Arrival.bus {s t : State} {o : Answered} (h : s.Arrival o) (ht : o = .next t) : t.bus = s.bus := by
  obtain rfl | ⟨f, rfl, hf⟩ := h
  · cases ht
    rfl
  · obtain ⟨-, rfl⟩ | ⟨-, rfl⟩ := event_cases ht
    · exact hf
    · rfl

/-- An event at the bus alone. -/
theorem busEvent_sound {s t : State} {f : Bus → Bus} (hs : s.bus.Sound) (hf : s.bus.Sound → (f s.bus).Sound)
    (h : event s (fun u => u.withBus (f u.bus)) = .next t) : t.bus.Sound := by
  obtain ⟨-, rfl⟩ | ⟨-, rfl⟩ := event_cases h
  · exact hf hs
  · exact hs

theorem busCycleEnd_sound {s t : State} {csHigh : Bool} (hs : s.bus.Sound) (h : execBusCycleEnd csHigh s = .next t) :
    t.bus.Sound := by
  unfold execBusCycleEnd at h
  split at h <;> cases h
  · exact hs
  · exact Bus.endCycle_sound hs csHigh
  · exact Bus.endCycle_sound hs csHigh

theorem resetRecoveryEnd_sound {s t : State} {c : RecoveryPhase} (hs : s.bus.Sound)
    (h : execResetRecoveryEnd c s = .next t) : t.bus.Sound := by
  unfold execResetRecoveryEnd at h
  split at h <;> cases h
  · exact hs
  · rw [endRecovery, State.firstLevels_bus]
    exact Bus.passOn_sound hs
  · exact hs

/-- Every command keeps the bus sound. -/
theorem exec_busSound {i : Instr} {s t : State} (hs : s.bus.Sound) (h : exec i s = .next t) : t.bus.Sound := by
  cases rowForm i with
  | access c hacc =>
    obtain ⟨mine, effect, hrow, -⟩ := hacc
    exact hostAccess_sound hs hrow.blind ((hrow.run c s).symm.trans h)
  | arrival harr => exact (harr s).bus h ▸ hs
  | bothStrobesLow => exact busEvent_sound hs Bus.bothStrobes_sound ((bothStrobesLow_event s).symm.trans h)
  | busCycleEnd csHigh => exact busCycleEnd_sound hs h
  | heldCyclePassedOn => exact busEvent_sound hs Bus.passOn_sound ((heldCyclePassedOn_event s).symm.trans h)
  | resetnAsserted =>
    cases h
    exact reset_busSound
  | powerUp =>
    cases h
    exact reset_busSound
  | resetRecoveryEnd c => exact resetRecoveryEnd_sound hs h

/-- Settles O59: a step runs a command or nothing. -/
theorem busStaysSound : Obligations.BusStaysSound := fun s t hs h => by
  obtain rfl | ⟨c, rest, -, h⟩ := step_cases h
  · exact hs
  · exact exec_busSound (s := { s with pending := rest }) hs h

end Sys2Proof.Machine
end

section
/-! The window's words and the rows that they are (R160, R162, R163, R168): every access is the row that its own bits spell, and
that row is the access's in the state in which TSEL and TFIELD spell it. -/

namespace Sys2Proof.Machine

open Sys2Proof.Laws

/-! ## The rows of CMD -/

section Codes

variable {c : CyclePhase} {levels w : Word}

/-- A word of no command (R163). -/
theorem commandRow_unknown (h : unknownWord w = true) : commandRow c levels w = .unknownCommand c w := by
  have hcode (n : Nat) (hn : commandCodes.contains (BitVec.ofNat 8 n) = true) : (cmdCode w).toNat ≠ n := by
    rintro rfl
    rw [BitVec.ofNat_toNat, BitVec.setWidth_eq] at hn
    simp only [unknownWord, hn, Bool.not_true, Bool.false_eq_true] at h
  unfold commandRow
  dsimp only
  split
  case h_16 => rfl
  all_goals exact absurd ‹_› (hcode _ (by decide))

variable {row : CyclePhase → Fin 8 → Instr}

/-- An operand of a group (R66). -/
theorem groupRow_groupWord (code : BitVec 8) (g : Fin 8) : groupRow c (groupWord code g) row = row c g := by
  simp only [groupRow, cmdOperand_groupWord, finOf_val]

/-- An operand of no group (R163). -/
theorem groupRow_range (h : 7 < (cmdOperand w).toNat) : groupRow c w row = .groupOperandRange c w := by
  have hnone : finOf 8 (cmdOperand w).toNat = none := dif_neg (by omega)
  simp only [groupRow, hnone]

end Codes

/-! ## The row of an access is its own -/

/-- The rows of `row` are the access `acc`, and it is theirs in this state. -/
def State.Owns (s : State) (row : CyclePhase → Instr) (acc : Access) : Prop :=
  ∃ mine effect, AccessRow row acc mine effect ∧ mine s = true

section Owns

variable {s : State} {row : CyclePhase → Instr} {acc : Access} {w : Word}

theorem IsAccess.owns {own : State → Prop} (h : IsAccess row acc own) (hs : own s) : s.Owns row acc := by
  obtain ⟨mine, effect, hrow, hown⟩ := h
  exact ⟨mine, effect, hrow, hown s hs⟩

/-- A command whose code is the word's. -/
theorem State.Owns.of_code {code : BitVec 8} (hc : cmdCode w = code)
    (h : IsAccess row (.write 0x04 (cmdWord code (cmdOperand w))) fun _ => True) : s.Owns row (.write 0x04 w) := by
  subst hc
  rw [cmdWord_of_bytes] at h
  exact h.owns trivial

/-- A group command whose code is the word's: its operand names a group, or is out of range. -/
theorem State.Owns.of_groupCode {code : BitVec 8} {row : CyclePhase → Fin 8 → Instr} (hc : cmdCode w = code)
    (hcode : groupCommandCodes.contains code = true)
    (h : ∀ g : Fin 8, IsAccess (row · g) (.write 0x04 (groupWord code g)) fun _ => True) :
    s.Owns (fun c => groupRow c w row) (.write 0x04 w) := by
  by_cases hop : 7 < (cmdOperand w).toNat
  · have hrow : (fun c => groupRow c w row) = (.groupOperandRange · w) := funext fun c => groupRow_range hop
    exact hrow ▸ (groupOperandRange_access w).owns (by simp only [groupRangeWord, hc, hcode, hop, decide_true, Bool.and_true])
  · obtain ⟨g, hg⟩ : ∃ g : Fin 8, g.val = (cmdOperand w).toNat := ⟨⟨(cmdOperand w).toNat, by omega⟩, rfl⟩
    have hw : groupWord code g = w := by
      rw [groupWord, hg, BitVec.ofNat_toNat, BitVec.setWidth_eq, ← hc, cmdWord_of_bytes]
    have hrow : (fun c => groupRow c w row) = (row · g) := funext fun c => by rw [← hw, groupRow_groupWord]
    exact hrow ▸ hw ▸ (h g).owns trivial

end Owns

/-- Every word of CMD is a command, an operand of no group, or no command (R163). -/
theorem commandRow_owns (s : State) (levels w : Word) : s.Owns (fun c => commandRow c levels w) (.write 0x04 w) := by
  by_cases hk : unknownWord w = true
  · have hrow : (fun c => commandRow c levels w) = (.unknownCommand · w) := funext fun c => commandRow_unknown hk
    exact hrow ▸ (unknownCommand_access w).owns hk
  · have hcode : cmdCode w ∈ commandCodes := by simpa [unknownWord] using hk
    simp only [commandCodes, List.mem_cons, List.not_mem_nil, or_false] at hcode
    obtain h | h | h | h | h | h | h | h | h | h | h | h | h | h | h := hcode <;> simp only [commandRow, h]
    · exact .of_groupCode h rfl groupStart_access
    · exact .of_groupCode h rfl groupHold_access
    · exact .of_groupCode h rfl groupResume_access
    · exact .of_groupCode h rfl groupStop_access
    · exact .of_groupCode h rfl groupCapture_access
    · exact .of_groupCode h rfl groupClear_access
    · exact .of_groupCode h rfl groupReload_access
    · exact .of_code h (queueRelease_access _)
    · exact .of_code h (queueFlush_access _)
    · exact .of_code h (timebaseStart_access _)
    · exact .of_code h (timebaseStop_access _)
    · exact .of_code h (linkRestart_access _)
    · exact .of_code h (linkClearCounts_access _)
    · exact .of_code h (countingReset_access _)
    · exact .of_code h (deviceReset_access _ levels)

/-- Every commit is of a row that answers for the selected field (R168; log entry 7). -/
theorem commitRow_owns (s : State) (w : Word) : s.Owns (fun c => commitRow c w s.selected) (.write 0x08 w) := by
  cases hsel : s.selected with
  | none => exact (tableCommitRange_commit w).owns hsel
  | some sel =>
    cases sel with
    | counter k f =>
      cases f with
      | group => exact (counterGroupWrite_commit w).owns ⟨k, hsel⟩
      | value => exact (valuePresetWrite_commit w).owns ⟨k, .inl hsel⟩
      | preset => exact (valuePresetWrite_commit w).owns ⟨k, .inr hsel⟩
      | enabled | source | mode | bandLow | bandHigh | overflowCapture | inside | wrapped | stale =>
        exact (counterFieldWrite_commit w).owns ⟨k, _, hsel, rfl⟩
    | group g f => exact (groupFieldWrite_commit w).owns ⟨g, f, hsel⟩
    | agent a f =>
      cases f with
      | enabled => exact (agentEnabledWrite_commit w).owns ⟨a, hsel⟩
      | silenceLimit => exact (silenceLimitWrite_commit w).owns ⟨a, hsel⟩
      | state | expected | silenceElapsed | accepted | missed | timesLost =>
        exact (readonlyFieldWrite_commit w).owns (.inl ⟨a, _, hsel, rfl⟩)
    | receiver f => exact (receiverEnabledWrite_commit w).owns ⟨f, hsel⟩
    | timebase f =>
      cases f with
      | state => exact (readonlyFieldWrite_commit w).owns (.inr hsel)
      | periodCode => exact (periodCodeWrite_commit w).owns hsel
      | epoch => exact (epochWrite_commit w).owns hsel
    | line n f => exact (lineFieldWrite_commit w).owns ⟨n, f, hsel⟩
    | error k f => exact (readOnlyTableWrite_commit w).owns (.inl ⟨k, f, hsel⟩)
    | head f => exact (readOnlyTableWrite_commit w).owns (.inr (.inl ⟨f, hsel⟩))
    | headValue p f => exact (readOnlyTableWrite_commit w).owns (.inr (.inr ⟨p, f, hsel⟩))

/-- A write of an offset with no row of its own is a REGISTER_WRITE (R160). -/
theorem writeRow_plain {c : CyclePhase} {levels tsel w : Word} {tfield : BitVec 8} {offset : BitVec 6}
    (h : plainOffset offset = true) : writeRow c levels tsel tfield offset w = .registerWrite c offset w := by
  have hoffset (n : Nat) (hn : ownRowOffsets.contains (BitVec.ofNat 6 n) = true) : offset.toNat ≠ n := by
    rintro rfl
    rw [BitVec.ofNat_toNat, BitVec.setWidth_eq] at hn
    simp only [plainOffset, hn, Bool.not_true, Bool.false_eq_true] at h
  unfold writeRow
  split
  case h_6 => rfl
  all_goals exact absurd ‹_› (hoffset _ (by decide))

/-- Every write of the window is its row's (R160). -/
theorem writeRow_owns (s : State) (levels : Word) (offset : BitVec 6) (w : Word) :
    s.Owns (fun c => writeRow c levels s.host.tsel s.host.tfield offset w) (.write offset w) := by
  by_cases hp : plainOffset offset = true
  · have hrow : (fun c => writeRow c levels s.host.tsel s.host.tfield offset w) = (.registerWrite · offset w) :=
      funext fun c => writeRow_plain hp
    exact hrow ▸ (registerWrite_access w offset).owns hp
  · have hoffset : offset ∈ ownRowOffsets := by simpa [plainOffset] using hp
    simp only [ownRowOffsets, List.mem_cons, List.not_mem_nil, or_false] at hoffset
    obtain rfl | rfl | rfl | rfl | rfl := hoffset
    · exact (irqstatWrite_access w).owns trivial
    · exact (irqenWrite_access w).owns trivial
    · exact commandRow_owns s levels w
    · exact commitRow_owns s w
    · exact (watermarkWrite_access w).owns trivial

/-- Every access of the window is its row's. -/
theorem rowOf_owns (s : State) (levels : Word) (acc : Access) : s.Owns (fun c => s.rowOf levels c acc) acc := by
  cases acc with
  | read offset => exact (tableFetch_access offset).owns trivial
  | write offset w => exact writeRow_owns s levels offset w

/-! ## Back from the row to the write -/

/-- The row is what its own write spells, under any selection. -/
def SpellsRow (i : Instr) (offset : BitVec 6) (w : Word) : Prop :=
  ∃ (c : CyclePhase) (levels : Word), ∀ (tsel : Word) (tfield : BitVec 8), writeRow c levels tsel tfield offset w = i

/-- A row of CMD. -/
theorem spellsRow_of_command {i : Instr} {w : Word} (c : CyclePhase) (levels : Word) (h : commandRow c levels w = i) :
    SpellsRow i 0x04 w := ⟨c, levels, fun _ _ => h⟩

/-- A group command's word spells its row. -/
theorem spellsRow_of_groupCommand {code : BitVec 8} {g : Fin 8} {row : CyclePhase → Fin 8 → Instr} (c : CyclePhase)
    (h : commandRow c 0 (groupWord code g) = groupRow c (groupWord code g) row) : SpellsRow (row c g) 0x04 (groupWord code g) :=
  spellsRow_of_command c 0 (h.trans (groupRow_groupWord code g))

/-- The word of a group command with an operand above 7 spells GROUP_OPERAND_RANGE. -/
theorem spellsRow_of_range {c : CyclePhase} {w : Word} (h : groupRangeWord w = true) :
    SpellsRow (.groupOperandRange c w) 0x04 w := by
  obtain ⟨hcode, hop⟩ : groupCommandCodes.contains (cmdCode w) = true ∧ 7 < (cmdOperand w).toNat := by
    simpa only [groupRangeWord, Bool.and_eq_true, decide_eq_true_eq] using h
  have hmem : cmdCode w ∈ groupCommandCodes := by simpa using hcode
  simp only [groupCommandCodes, List.mem_cons, List.not_mem_nil, or_false] at hmem
  refine spellsRow_of_command c 0 ?_
  obtain h | h | h | h | h | h | h := hmem <;>
  · simp only [commandRow, h]
    exact groupRow_range hop

/-- A well-formed row that writes another register than TDATA0 is what its write spells: a command by its code, and a register
with a row of its own, or a plain one, by its offset. -/
theorem spellsRow_of_access {i : Instr} {offset : BitVec 6} {w : Word} (hwf : wellFormed i = true)
    (hacc : accessOf i = some (.write offset w)) (hoff : offset ≠ 0x08) : SpellsRow i offset w := by
  cases i with
  | intervalExpiry | lineChange | frameComplete | quietTimeExpiry | receiverTick | agentLost | sourceEvent | engineTick
  | periodicCause | overflowEvent | placedEvent | agentDown | chainRequest | answerTaken | answerWaiting | answerRefused
  | answerPlaced | answerAbandoned | draft | withdraw | errorReport | statusEvent | tableFetch | bothStrobesLow | busCycleEnd
  | heldCyclePassedOn | resetnAsserted | resetRecoveryEnd | powerUp | tclkRisingEdge => cases hacc
  | periodCodeWrite | epochWrite | lineFieldWrite | receiverEnabledWrite | agentEnabledWrite | silenceLimitWrite
  | counterFieldWrite | counterGroupWrite | valuePresetWrite | groupFieldWrite | readOnlyTableWrite | tableCommitRange
  | readonlyFieldWrite =>
    cases hacc
    exact absurd rfl hoff
  | timebaseStart c op | timebaseStop c op | linkRestart c op | linkClearCounts c op | countingReset c op | queueRelease c op
  | queueFlush c op =>
    cases hacc
    exact spellsRow_of_command c 0 (by simp only [commandRow, cmdCode_cmdWord, cmdOperand_cmdWord]; rfl)
  | deviceReset c op levels =>
    cases hacc
    exact spellsRow_of_command c levels (by simp only [commandRow, cmdCode_cmdWord, cmdOperand_cmdWord]; rfl)
  | groupStart c g | groupHold c g | groupResume c g | groupStop c g | groupCapture c g | groupClear c g | groupReload c g =>
    cases hacc
    exact spellsRow_of_groupCommand c (by simp only [commandRow, cmdCode_groupWord]; rfl)
  | unknownCommand c w =>
    cases hacc
    exact spellsRow_of_command c 0 (commandRow_unknown hwf)
  | groupOperandRange c w =>
    cases hacc
    exact spellsRow_of_range hwf
  | watermarkWrite c w | irqstatWrite c w | irqenWrite c w =>
    cases hacc
    exact ⟨c, 0, fun _ _ => rfl⟩
  | registerWrite c offset w =>
    cases hacc
    exact ⟨c, 0, fun _ _ => writeRow_plain hwf⟩

/-- Settles O3: a write's row is its own in a state with the selection, and a row is what its write spells. -/
theorem windowWritesRoundTrip : Obligations.WindowWritesRoundTrip := by
  refine ⟨fun c levels tsel tfield offset w => ?_, fun _ _ _ => spellsRow_of_access⟩
  obtain ⟨mine, effect, hrow, hmine⟩ := writeRow_owns
    { State.reset with host := { HostPort.reset with tsel := tsel, tfield := tfield } } levels offset w
  exact ⟨hrow.wellFormed c _ hmine, hrow.access c⟩

/-! ## Plain registers -/

/-- A plain write taken: the register's content, with RESULT left as it was (R160, R165, R167). -/
theorem registerWrite_takes {c : CyclePhase} {offset : BitVec 6} {w : Word} {s : State} {h : HostPort}
    (ht : s.takes c (.write offset w) = true) (hp : plainOffset offset = true) (hh : s.host.writeRegister offset w = h) :
    exec (.registerWrite c offset w) s = .next (State.written { s with host := h } c) := by
  rw [exec, execRegisterWrite, hostAccess_takes ht hp (fun _ => rfl) rfl, hh]
  rfl

/-- A write of another offset than those of TSEL, TFIELD, TDATA1 and TDATA2 changes nothing (R160). -/
theorem writeRegister_ignored {offset : BitVec 6} (h : HostPort) (w : Word) (h6 : offset ≠ 0x06) (h7 : offset ≠ 0x07)
    (h9 : offset ≠ 0x09) (hA : offset ≠ 0x0A) : h.writeRegister offset w = h := by
  have hne {n : BitVec 6} (hn : offset ≠ n) : offset.toNat ≠ n.toNat := fun e => hn (BitVec.eq_of_toNat_eq e)
  unfold HostPort.writeRegister
  split
  · exact absurd ‹_› (hne h6)
  · exact absurd ‹_› (hne h7)
  · exact absurd ‹_› (hne h9)
  · exact absurd ‹_› (hne hA)
  · rfl

/-- The offsets whose writes are ignored are plain, and hold none of the four plain registers (R160): a fact of 64 offsets. -/
theorem ignoredOffset_plain : ∀ offset : BitVec 6,
    offset = 0x00 ∨ offset = 0x01 ∨ offset = 0x05 ∨ offset = 0x0B ∨ 0x0D ≤ offset.toNat →
      plainOffset offset = true ∧ offset ≠ 0x06 ∧ offset ≠ 0x07 ∧ offset ≠ 0x09 ∧ offset ≠ 0x0A := by
  decide

/-- Settles O51: the four plain registers, and the offsets whose writes are ignored. -/
theorem plainRegisterWrites : Obligations.PlainRegisterWrites := by
  refine fun c offset w s ht => ⟨?_, ?_, ?_, ?_, fun hoff => ?_⟩
  · rintro rfl
    exact registerWrite_takes ht rfl rfl
  · rintro rfl
    exact registerWrite_takes ht rfl rfl
  · rintro rfl
    exact registerWrite_takes ht rfl rfl
  · rintro rfl
    exact registerWrite_takes ht rfl rfl
  · obtain ⟨hp, h6, h7, h9, hA⟩ := ignoredOffset_plain offset hoff
    exact registerWrite_takes ht hp (writeRegister_ignored _ w h6 h7 h9 hA)

end Sys2Proof.Machine
end

section
/-! Bus cycles (section 9.2, R158, R159, R175): an access begun and then taken is the whole cycle, held and cut-short cycles
keep their accesses, and RDYn follows the end of a cycle, CSn and a cycle of both strobes. -/

namespace Sys2Proof.Machine

/-! ## Cycles recognised and taken -/

/-- A cycle recognised while its owner can take it is passed on (R158). -/
theorem recognise_ready {s : State} (h : s.busReady = true) (acc : Access) (cut cs : Bool) :
    s.bus.recognise s.mode acc cut cs =
      { s.bus with cycle := .pending, unanswered := some ⟨acc, cut⟩, csLow := cs, bothLow := false, data := none } := by
  obtain ⟨hm, hc⟩ : s.mode = .running ∧ s.bus.cycle ≠ .pending := by simpa [State.busReady] using h
  rw [hm]
  cases hcy : s.bus.cycle with
  | free | done => simp only [Bus.recognise, hcy]
  | pending => exact absurd hcy hc

/-- A cycle recognised while an access is unanswered, or in recovery, is held (R159, R175). -/
theorem recognise_holds {s : State} (h : s.mode = .recovering ∨ s.mode = .running ∧ s.bus.cycle = .pending)
    (hs : s.bus.strobeHigh = true) (acc : Access) (cut cs : Bool) :
    s.bus.recognise s.mode acc cut cs =
      { s.bus with cycle := .pending, held := s.bus.held ++ [⟨acc, cut⟩], csLow := cs, bothLow := false, data := none } := by
  obtain hm | ⟨hm, hc⟩ := h
  · simp only [Bus.recognise, hm, hs, if_true]
  · simp only [Bus.recognise, hm, hc, hs, if_true]

/-- An access passed on has been, whatever else the bus holds. -/
theorem passedOn_withBus {s : State} {acc : Access} {b : Bus} (hm : s.mode = .running)
    (hb : b.unanswered.map (·.access) = some acc) : (s.withBus b).passedOn acc = true := by
  simp [State.passedOn, hm, hb]

section Row

variable {s : State} {row : CyclePhase → Instr} {acc : Access} {mine : State → Bool} {effect : State → State}
  (hrow : AccessRow row acc mine effect)
include hrow

/-- The beginning of a cycle recognises it. -/
theorem AccessRow.begun (s : State) : exec (row .begun) s = .next (s.withBus (s.bus.recognise s.mode acc false true)) :=
  hrow.run .begun s

/-- With no strobe low, a cycle cut short is a cycle recognised that has been cut. -/
theorem AccessRow.cutShort_fresh (h : s.bus.strobeHigh = true) (csHigh : Bool) :
    exec (row (.cutShort csHigh)) s = .next (s.withBus (s.bus.recognise s.mode acc true !csHigh)) :=
  (hrow.run _ s).trans (if_pos h)

/-- With a strobe low, it is the latest cycle that is cut short. -/
theorem AccessRow.cutShort_latest (h : s.bus.strobeHigh = false) (csHigh : Bool) :
    exec (row (.cutShort csHigh)) s = .next (s.withBus (s.bus.cutLatest s.mode acc csHigh)) :=
  (hrow.run _ s).trans (if_neg (by simp [h]))

/-- On any bus an access has the effect that it has in `s`, and its answer is latched on that bus. -/
theorem AccessRow.answer_withBus (s : State) (b : Bus) :
    answerAccess acc effect (s.withBus b) = (effect s).withBus (b.answer (wordDriven acc (effect s))) := by
  rw [answerAccess, hrow.blind, wordDriven_withBus]
  rfl

/-- A whole cycle taken by its owner. -/
theorem AccessRow.whole (h : s.busReady = true) (hm : mine s = true) : exec (row .whole) s =
    .next ((effect s).withBus ((s.bus.recognise s.mode acc false true).answer (wordDriven acc (effect s)))) := by
  rw [hrow.run, hostAccess, if_pos (by rw [h, hm]; rfl), hrow.answer_withBus]

/-- An access passed on before is taken by its owner, whatever the bus holds. -/
theorem AccessRow.taken_withBus (hr : s.mode = .running) (hm : mine s = true) {b : Bus}
    (hb : b.unanswered.map (·.access) = some acc) :
    exec (row .taken) (s.withBus b) = .next ((effect s).withBus (b.answer (wordDriven acc (effect s)))) := by
  rw [hrow.run, hostAccess, if_pos (by rw [passedOn_withBus hr hb, hrow.mine_withBus, hm]; rfl), hrow.answer_withBus]

end Row

/-- Settles O4: the whole cycle is the taking on the bus of its beginning, and the effect does not look at the bus. -/
theorem lateTakingHasTheSameEffect : Obligations.LateTakingHasTheSameEffect := by
  intro acc levels s hready row b driven
  obtain ⟨mine, effect, hrow, hmine⟩ := rowOf_owns s levels acc
  have hr : s.mode = .running := by
    simp only [State.busReady, Bool.and_eq_true, decide_eq_true_eq] at hready
    exact hready.1
  have hb : s.bus.recognise s.mode acc false true = b := recognise_ready hready acc false true
  have hwhole := hrow.whole hready hmine
  rw [hb] at hwhole
  have hdriven (t : State) : driven t = wordDriven acc t := by cases acc <;> rfl
  refine ⟨?begun, (hrow.taken_withBus hr hmine rfl).trans hwhole.symm, _, hwhole, fun b' hb' => ?late⟩
  case begun =>
    rw [hrow.begun, hb]
    rfl
  case late =>
    rw [hdriven, wordDriven_withBus]
    exact hrow.taken_withBus hr hmine hb'

/-! ## Cycles held and cut short -/

/-- The last cycle held, of this access, is cut (R159). -/
theorem cutLatest_held {b : Bus} {mode : PartMode} {acc : Access} {earlier : List BusCycle} (csHigh : Bool)
    (hm : mode ≠ .resetting) (h : b.held = earlier ++ [⟨acc, false⟩]) :
    b.cutLatest mode acc csHigh = { b with held := earlier ++ [⟨acc, true⟩], csLow := !csHigh } := by
  have hlast : b.held.getLast? = some ⟨acc, false⟩ := by rw [h, List.getLast?_concat]
  have hinit : b.held.dropLast = earlier := by rw [h, List.dropLast_concat]
  cases mode with
  | resetting => exact absurd rfl hm
  | running | recovering => simp only [Bus.cutLatest, hlast, hinit, if_true]

/-- With none held, the cycle passed on, of this access, is cut (R159). -/
theorem cutLatest_unanswered {b : Bus} {mode : PartMode} {acc : Access} (csHigh : Bool) (hm : mode ≠ .resetting)
    (hh : b.held = []) (hu : b.unanswered = some ⟨acc, false⟩) :
    b.cutLatest mode acc csHigh = { b with unanswered := some ⟨acc, true⟩, csLow := !csHigh } := by
  cases mode with
  | resetting => exact absurd rfl hm
  | running | recovering => simp only [Bus.cutLatest, hh, hu, List.getLast?_nil, if_true]

/-- RDYn in no cycle that has been answered: it follows CSn (R158, section 9.2). -/
theorem rdyn_followsCs {s : State} (hm : s.mode ≠ .resetting) (hc : s.bus.cycle ≠ .done) (hb : s.bus.bothLow = false) :
    s.rdyn = if s.bus.csLow then .high else .released := by
  simp [State.rdyn, hm, hc, hb]

/-- The same, after a move of CSn to this level. -/
theorem rdyn_movedCs {s : State} {csHigh : Bool} (hm : s.mode ≠ .resetting) (hc : s.bus.cycle ≠ .done)
    (hb : s.bus.bothLow = false) (hcs : s.bus.csLow = !csHigh) : s.rdyn = if csHigh then .released else .high := by
  rw [rdyn_followsCs hm hc hb, hcs]
  cases csHigh <;> rfl

/-- BUS_CYCLE_END out of reset is the end of a cycle, or a move of CSn (R158, R175). -/
theorem busCycleEnd_ends {s : State} (h : s.mode ≠ .resetting) (csHigh : Bool) :
    exec (.busCycleEnd csHigh) s = .next (s.withBus (s.bus.endCycle csHigh)) := by
  rw [exec, execBusCycleEnd]
  split
  · exact absurd ‹_› h
  · rfl
  · rfl

/-- The same after a change of the bus. -/
theorem busCycleEnd_withBus {s : State} (h : s.mode ≠ .resetting) (b : Bus) (csHigh : Bool) :
    exec (.busCycleEnd csHigh) (s.withBus b) = .next (s.withBus (b.endCycle csHigh)) :=
  busCycleEnd_ends (s := s.withBus b) h csHigh

/-- The end of a cycle in DONE (R158). -/
theorem endCycle_done {b : Bus} (h : b.cycle = .done) (csHigh : Bool) :
    b.endCycle csHigh = { b with cycle := .free, bothLow := false, csLow := !csHigh, data := none } := if_pos h

/-- The end of a cycle of both strobes while an access is unanswered (R159). -/
theorem endCycle_bothLow {b : Bus} (h : b.cycle ≠ .done) (hb : b.bothLow = true) (csHigh : Bool) :
    b.endCycle csHigh = { b with bothLow := false, csLow := !csHigh } := by
  rw [Bus.endCycle, if_neg h, if_pos hb]

/-- A move of CSn where no cycle ends and no strobe is low (R158; log entry 12). -/
theorem endCycle_moves {b : Bus} (h : b.cycle ≠ .done) (hb : b.bothLow = false) (hs : b.strobeHigh = true) (csHigh : Bool) :
    b.endCycle csHigh = { b with csLow := !csHigh } := by
  rw [Bus.endCycle, if_neg h, if_neg (by simp [hb]), Bus.followCs, if_pos hs]

/-- A cycle of both strobes while an access is unanswered and no strobe is low (R159; log entry 11). -/
theorem bothStrobes_pending {b : Bus} (h : b.cycle = .pending) (hs : b.strobeHigh = true) :
    b.bothStrobes = { b with bothLow := true, csLow := true } := by
  simp only [Bus.bothStrobes, h, hs, if_true]

/-- A cycle of both strobes else (R159). -/
theorem bothStrobes_done {b : Bus} (h : b.cycle ≠ .pending) :
    b.bothStrobes = { b with cycle := .done, bothLow := true, csLow := true, data := none } := by
  unfold Bus.bothStrobes
  split
  · exact absurd ‹_› h
  · rfl

/-- RDYn is low in DONE and in a cycle of both strobes (R158, R159). -/
theorem rdyn_low {s : State} (hm : s.mode ≠ .resetting) (h : s.bus.bothLow = true ∨ s.bus.cycle = .done) : s.rdyn = .low := by
  rw [State.rdyn, if_neg hm, if_pos h]

/-- A cycle of both strobes while the part runs. -/
theorem bothStrobesLow_running {s : State} (hm : s.mode = .running) :
    exec .bothStrobesLow s = .next (s.withBus s.bus.bothStrobes) :=
  (bothStrobesLow_event s).trans (event_running hm)

/-- With a strobe low at the end of the held cycles, a new cycle cannot begin. -/
theorem strobeHigh_of_heldLow {b : Bus} {earlier : List BusCycle} {acc : Access} (h : b.held = earlier ++ [⟨acc, false⟩]) :
    b.strobeHigh = false := by
  simp [Bus.strobeHigh, h]

/-- With its strobe low the unanswered cycle bars a new one. -/
theorem strobeHigh_of_unansweredLow {b : Bus} {acc : Access} (h : b.unanswered = some ⟨acc, false⟩) :
    b.strobeHigh = false := by
  simp [Bus.strobeHigh, h]

/-- Settles O5: each clause by the phase's effect on the bus, and RDYn by what it follows. -/
theorem heldAndEndedCycles : Obligations.HeldAndEndedCycles := by
  have hrunning {s : State} (h : s.mode = .running) : s.mode ≠ .resetting := h ▸ nofun
  refine ⟨⟨fun acc levels csHigh s => ?_, fun x rest s hm hu hh => ?_⟩,
    ⟨fun csHigh s hm hc => ?_, fun csHigh s hm hc hb hs => ?_⟩, fun s hm hc => ?_, fun s hm hc hs => ?_⟩
  · obtain ⟨mine, effect, hrow, -⟩ := rowOf_owns s levels acc
    refine ⟨fun hmode hs => ⟨?begun, ?rdyn, ?cut⟩, fun hready hs => ?fresh, fun hm hh hu => ?unanswered,
      fun earlier hm hh => ?held⟩
    case begun =>
      rw [hrow.begun, recognise_holds hmode hs]
      rfl
    case rdyn =>
      have hm : s.mode ≠ .resetting := by
        obtain h | ⟨h, -⟩ := hmode <;> simp [h]
      exact rdyn_followsCs hm nofun rfl
    case cut =>
      rw [hrow.cutShort_fresh hs, recognise_holds hmode hs]
      rfl
    case fresh =>
      rw [hrow.cutShort_fresh hs, recognise_ready hready]
      rfl
    case unanswered =>
      rw [hrow.cutShort_latest (strobeHigh_of_unansweredLow hu), cutLatest_unanswered csHigh hm hh hu]
      rfl
    case held =>
      rw [hrow.cutShort_latest (strobeHigh_of_heldLow hh), cutLatest_held csHigh hm hh]
      rfl
  · rw [heldCyclePassedOn_event, event_running hm, Bus.passOn_cons hu hh]
    rfl
  · refine ⟨_, busCycleEnd_ends (hrunning hm) csHigh, by rw [endCycle_done hc]; rfl, ?_⟩
    rw [endCycle_done hc]
    exact rdyn_movedCs (hrunning hm) nofun rfl rfl
  · refine ⟨_, busCycleEnd_ends hm csHigh, by rw [endCycle_moves hc hb hs]; rfl, ?_⟩
    rw [endCycle_moves hc hb hs]
    exact rdyn_movedCs hm hc hb rfl
  · refine ⟨_, bothStrobesLow_running hm, rfl, ?_⟩
    rw [bothStrobes_done hc]
    refine ⟨rdyn_low (hrunning hm) (.inl rfl), rfl, fun csHigh =>
      ⟨_, busCycleEnd_withBus (hrunning hm) _ csHigh, rfl, ?_⟩⟩
    rw [endCycle_done rfl]
    exact ⟨rfl, rdyn_movedCs (hrunning hm) nofun rfl rfl⟩
  · refine ⟨_, bothStrobesLow_running hm, by rw [bothStrobes_pending hc hs]; rfl, ?_⟩
    rw [bothStrobes_pending hc hs]
    have hdone : s.bus.cycle ≠ .done := by simp [hc]
    refine ⟨rdyn_low (hrunning hm) (.inl rfl), fun csHigh => (busCycleEnd_withBus (hrunning hm) _ csHigh).trans ?_⟩
    rw [endCycle_bothLow (b := { s.bus with bothLow := true, csLow := true }) hdone rfl]
    rfl

end Sys2Proof.Machine
end

section
/-! Commits to the group, the value and the preset of a counter: the locks, the answers, and the statements on them (R51, R54,
R56). -/

namespace Sys2Proof.Machine

/-! ## The group of a counter (R54) -/

/-- The value that names a group is its number. -/
theorem namedGroup_iff {v : Latch} {g : Fin 8} : namedGroup v = some g ↔ v = num g.val := by
  constructor
  · intro h
    have hn : groupNumberOf v = some (some g) := Option.join_eq_some_iff.mp h
    rw [groupNumberOf] at hn
    split at hn
    · cases hn
    · obtain ⟨x, hx, hxg⟩ := Option.map_eq_some_iff.mp hn
      cases hxg
      exact BitVec.eq_of_toNat_eq ((val_of_finOf hx).symm.trans (num_group_toNat g).symm)
  · rintro rfl
    rw [namedGroup, groupNumberOf_num]
    rfl

section Membership

variable {k : Fin 32} {v : Latch} {new : Option (Fin 8)} {s : State}

/-- Neither the group that counter Ck leaves nor the one that a value names is in service (R54). -/
def State.membershipUnlocked (s : State) (k : Fin 32) (v : Latch) : Bool :=
  s.groupIdle (s.counter k).group && s.groupIdle (namedGroup v)

/-- The lock as the statements say it. -/
theorem State.membershipUnlocked_iff : s.membershipUnlocked k v = true ↔
    ∀ g : Fin 8, (s.counter k).group = some g ∨ v = num g.val → (s.group g).state = .idle := by
  simp only [membershipUnlocked, Bool.and_eq_true, State.groupIdle_iff, namedGroup_iff]
  exact ⟨fun ⟨hold, hnew⟩ g => Or.rec (hold g) (hnew g), fun h => ⟨fun g => h g ∘ .inl, fun g => h g ∘ .inr⟩⟩

/-- A write with one of the groups in service. -/
theorem writeMembership_locked (h : ¬s.membershipUnlocked k v = true) : writeMembership k v s = (s, .locked) := if_neg h

/-- A write of a value that names neither a group nor NONE. -/
theorem writeMembership_range (h : s.membershipUnlocked k v = true) (hv : groupNumberOf v = none) :
    writeMembership k v s = (s, .range) := by
  refine (if_pos h).trans ?_
  rw [hv]
  rfl

/-- A write that moves the counter to another group with eight members. -/
theorem writeMembership_full (h : s.membershipUnlocked k v = true) (hv : groupNumberOf v = some new)
    (hf : s.groupFull (s.counter k).group new = true) : writeMembership k v s = (s, .full) := by
  refine (if_pos h).trans ?_
  rw [hv]
  exact if_pos hf

/-- A write that moves the counter. -/
theorem writeMembership_takes (h : s.membershipUnlocked k v = true) (hv : groupNumberOf v = some new)
    (hf : s.groupFull (s.counter k).group new = false) :
    writeMembership k v s = (s.modifyCounter k fun y => { y with group := new, inside := false }, .ok) := by
  refine (if_pos h).trans ?_
  rw [hv]
  exact if_neg (Bool.eq_false_iff.mp hf)

/-- COUNTER_GROUP_WRITE is the owner's answer to the commit. -/
theorem counterGroupWrite_commits {t : State} {c : CyclePhase} {w : Word} {r : ResultCode}
    (h : s.takes c (.write 0x08 w) = true) (hsel : s.selected = some (.counter k .group))
    (j : JudgedAs (writeMembership k (s.host.commitValue w)) s t r) :
    exec (.counterGroupWrite c w) s = .next (t.committed c w r) := by
  rw [exec, execCounterGroupWrite]
  exact tableWrite_commits h (by rw [hsel]) j

end Membership

/-- A group is full for a counter of another group once it has eight members (R54). -/
theorem State.groupFull_some {s : State} {old : Option (Fin 8)} {g : Fin 8} :
    s.groupFull old (some g) = true ↔ old ≠ some g ∧ 8 ≤ (s.members g).length := by
  rw [State.groupFull, Bool.and_eq_true, decide_eq_true_eq, decide_eq_true_eq]
  exact and_congr_left fun _ => ne_comm

/-- Settles O37: the owner's answers by the lock, the value and the room in the group. -/
theorem counterGroupWrites : Obligations.CounterGroupWrites := by
  intro c w k s ht hsel v x unlocked answers takes
  have hrow {t : State} {r : ResultCode} (j : JudgedAs (writeMembership k v) s t r) :
      exec (.counterGroupWrite c w) s = .next (t.committed c w r) := counterGroupWrite_commits ht hsel j
  have hunlocked : s.membershipUnlocked k v = true ↔ unlocked := State.membershipUnlocked_iff
  refine ⟨fun hl => ?locked, fun hu h7 h15 => ?range, fun hu hv => ?none, fun g hu hv hne hm => ?full,
    fun g hu hv hm => ?moves⟩
  case locked => exact hrow ⟨rfl, rfl, fun _ _ => writeMembership_locked (mt hunlocked.mp hl)⟩
  case range => exact hrow ⟨rfl, rfl, fun _ _ => writeMembership_range (hunlocked.mpr hu) (groupNumberOf_above h7 h15)⟩
  case none => exact hrow ⟨rfl, rfl, fun _ _ => writeMembership_takes (hunlocked.mpr hu) (groupNumberOf_none hv) rfl⟩
  case full =>
    have hnum : groupNumberOf v = some (some g) := hv ▸ groupNumberOf_num g
    have hfull : s.groupFull x.group (some g) = true := State.groupFull_some.mpr ⟨hne, hm⟩
    exact hrow ⟨rfl, rfl, fun _ _ => writeMembership_full (hunlocked.mpr hu) hnum hfull⟩
  case moves =>
    have hnum : groupNumberOf v = some (some g) := hv ▸ groupNumberOf_num g
    have hroom : s.groupFull x.group (some g) = false := by
      rw [Bool.eq_false_iff, Ne, State.groupFull_some]
      rintro ⟨hne, hfull⟩
      exact hm.elim hne (Nat.not_lt.mpr hfull)
    exact hrow ⟨rfl, rfl, fun _ _ => writeMembership_takes (hunlocked.mpr hu) hnum hroom⟩

/-! ## The value and the preset of a counter (R51, R56) -/

/-- A counter's contents may be set, as the statements say it (R51). -/
theorem State.groupSettable_iff {s : State} {x : Option (Fin 8)} : s.groupSettable x = true ↔
    ∀ g : Fin 8, x = some g → (s.group g).state = .idle ∨ (s.group g).state = .held := by
  cases x <;> simp [State.groupSettable, GroupState.settable_iff]

section Contents

variable {k : Fin 32} {v : Latch} {f : Tally → Counter → Counter} {s : State}

/-- A write in RUNNING and STALLED. -/
theorem writeContents_locked (h : ¬s.groupSettable (s.counter k).group = true) :
    writeContents k v f s = (s, .locked) := if_neg h

/-- A write of a number of more than 40 bits. -/
theorem writeContents_range (h : s.groupSettable (s.counter k).group = true) (hv : 2 ^ 40 ≤ v.toNat) :
    writeContents k v f s = (s, .range) := by
  refine (if_pos h).trans ?_
  rw [bitsOf_tooLarge hv]
  rfl

/-- A write of a number of 40 bits. -/
theorem writeContents_takes (h : s.groupSettable (s.counter k).group = true) (hv : v.toNat < 2 ^ 40) :
    writeContents k v f s = (s.modifyCounter k (f (v.setWidth 40)), .ok) := by
  refine (if_pos h).trans ?_
  rw [bitsOf_fits hv]
  rfl

end Contents

/-- The field that a VALUE_PRESET_WRITE sets. -/
def setContents (f : CounterField) (x : Tally) (c : Counter) : Counter :=
  if f = .value then { c with value := x } else { c with preset := x }

/-- VALUE_PRESET_WRITE is the owner's answer to the commit. -/
theorem valuePresetWrite_commits {s t : State} {c : CyclePhase} {w : Word} {k : Fin 32} {f : CounterField} {r : ResultCode}
    (h : s.takes c (.write 0x08 w) = true) (hsel : s.selected = some (.counter k f)) (hf : f = .value ∨ f = .preset)
    (j : JudgedAs (writeContents k (s.host.commitValue w) (setContents f)) s t r) :
    exec (.valuePresetWrite c w) s = .next (t.committed c w r) := by
  rw [exec, execValuePresetWrite]
  obtain rfl | rfl := hf
  · exact tableWrite_commits h (by rw [hsel]) j
  · exact tableWrite_commits h (by rw [hsel]) j

/-- Settles O38: the owner's three answers. -/
theorem valuePresetWrites : Obligations.ValuePresetWrites := by
  intro c w k f s ht hsel hf v unlocked
  have hunlocked : s.groupSettable (s.counter k).group = true ↔ unlocked := State.groupSettable_iff
  refine ⟨fun hl => ?locked, fun hu hv => ?range, fun hu hv => ?takes⟩
  case locked =>
    exact valuePresetWrite_commits ht hsel hf ⟨rfl, rfl, fun _ _ => writeContents_locked (mt hunlocked.mp hl)⟩
  case range =>
    exact valuePresetWrite_commits ht hsel hf ⟨rfl, rfl, fun _ _ => writeContents_range (hunlocked.mpr hu) hv⟩
  case takes =>
    exact valuePresetWrite_commits ht hsel hf ⟨rfl, rfl, fun _ _ => writeContents_takes (hunlocked.mpr hu) hv⟩

end Sys2Proof.Machine
end

section
/-! The store of the Snapshot Queue: what its operations keep of its bounds, of the entries of its drafts and records, and of the
order of waiting behind a record (R97, R122 to R124, R127, R132 to R134, R139 to R141). -/

namespace Sys2Proof.Machine

/-! ## The records of a store, and the drafts that wait behind them -/

/-- The part of a sound store that does not look at the wait list: both bounds, the value use, the watermark, and the entries of
the records. -/
structure Queue.Stored (q : Queue) : Prop where
  records_le : q.records.length ≤ 64
  valueUse_eq : q.valueUse = entriesHeld q.records
  valueUse_le : q.valueUse ≤ 256
  watermark_pos : 1 ≤ q.watermark.toNat
  watermark_le : q.watermark.toNat ≤ 64
  entries_le : ∀ r ∈ q.records, r.entries.length ≤ 8

/-- A sound store: its records, at most eight entries in a waiting draft, and no draft waiting at an empty store. -/
structure Queue.Kept (q : Queue) : Prop where
  stored : q.Stored
  waiting_le : ∀ d ∈ q.waitList, d.entries.length ≤ 8
  waiting_behind : q.waitList ≠ [] → q.records ≠ []

/-- A sound store in the words of the statements. -/
theorem Queue.kept_iff {q : Queue} : q.Kept ↔ q.Sound ∧ (∀ d ∈ q.waitList, d.entries.length ≤ Config.maxMembers) ∧
    ∀ r ∈ q.records, r.entries.length ≤ Config.maxMembers := by
  constructor
  · rintro ⟨⟨hrecords, hvalues, huse, hlow, hhigh, hentries⟩, hwaiting, hbehind⟩
    exact ⟨⟨hrecords, hvalues, huse, hlow, hhigh, hbehind⟩, hwaiting, hentries⟩
  · rintro ⟨⟨hrecords, hvalues, huse, hlow, hhigh, hbehind⟩, hwaiting, hentries⟩
    exact ⟨⟨hrecords, hvalues, huse, hlow, hhigh, hentries⟩, hwaiting, hbehind⟩

namespace Queue.Stored

variable {q : Queue} (h : q.Stored)
include h

/-- The wait list, the next number and the counts of the groups are no part of it. -/
theorem congr {q' : Queue} (hr : q'.records = q.records) (hv : q'.valueUse = q.valueUse)
    (hw : q'.watermark = q.watermark) : q'.Stored := by
  obtain ⟨hrecords, hvalues, huse, hlow, hhigh, hentries⟩ := h
  exact ⟨by rwa [hr], by rwa [hr, hv], by rwa [hv], by rwa [hw], by rwa [hw], by rwa [hr]⟩

/-- An empty store has room for a draft of eight entries (R123). -/
theorem records_ne_nil {n : Nat} (hn : n ≤ 8) (hf : q.fits n = false) : q.records ≠ [] := by
  intro hnil
  have huse : q.valueUse = 0 := by rw [h.valueUse_eq, hnil]; rfl
  rw [Queue.not_fits_iff, hnil, huse, List.length_nil] at hf
  omega

/-- A placement of a draft that fits (R123, R125). -/
theorem place {d : Draft} (e : Option Epoch) (hd : d.entries.length ≤ 8) (hf : q.fits d.entries.length = true) :
    (q.place d e).Stored := by
  obtain ⟨hrecords, hvalues⟩ := Queue.fits_iff.mp hf
  refine ⟨?_, ?_, hvalues, h.watermark_pos, h.watermark_le, fun r hr => ?_⟩
  · rw [Queue.place_records_length]
    omega
  · have huse := h.valueUse_eq
    simp [Queue.place, entriesHeld, Draft.record, huse]
  · obtain hr | hr := List.mem_append.mp hr
    · exact h.entries_le r hr
    · rw [List.mem_singleton.mp hr]
      exact hd

/-- The head record removed with its room (R139). -/
theorem release {r : Record} {rs : List Record} (hr : q.records = r :: rs) :
    Queue.Stored { q with records := rs, valueUse := q.valueUse - r.entries.length } := by
  have hlength := h.records_le
  have huse := h.valueUse_eq
  have hle := h.valueUse_le
  rw [hr, List.length_cons] at hlength
  rw [hr, entriesHeld, List.map_cons, List.sum_cons] at huse
  refine ⟨Nat.le_of_succ_le hlength, ?_, Nat.le_trans (Nat.sub_le _ _) hle, h.watermark_pos, h.watermark_le, fun x hx => ?_⟩
  · simp only [entriesHeld]
    omega
  · exact h.entries_le x (hr ▸ List.mem_cons_of_mem r hx)

/-- All records removed (R140). -/
theorem flush : Queue.Stored { q with records := [], valueUse := 0 } :=
  ⟨Nat.zero_le _, rfl, Nat.zero_le _, h.watermark_pos, h.watermark_le, nofun⟩

/-- With no draft waiting a store is sound. -/
theorem kept (hw : q.waitList = []) : q.Kept :=
  ⟨h, by rw [hw]; exact nofun, fun hne => absurd hw hne⟩

end Queue.Stored

/-! ## The operations of the queue -/

/-- The store after a placement. -/
theorem placeDraft_queue (d : Draft) (e : Option Epoch) (k : AnswerKind) (s : State) :
    (placeDraft d e k s).queue = s.queue.place d e := by
  rw [placeDraft_frame]

/-- The grant step ends at an empty wait list, or at a draft that the records leave no room for (R132). -/
theorem grant_kept (ds : List Draft) (s : State) (h : s.queue.Stored) (hds : ∀ d ∈ ds, d.entries.length ≤ 8) :
    (grant ds s).queue.Kept := by
  induction ds generalizing s with
  | nil => exact Queue.Stored.kept (q := { s.queue with waitList := [] }) (h.congr rfl rfl rfl) rfl
  | cons d rest ih =>
    have hd : d.entries.length ≤ 8 := hds d List.mem_cons_self
    by_cases hf : s.queue.fits d.entries.length = true
    · rw [grant, if_pos hf]
      refine ih _ ?_ fun x hx => hds x (List.mem_cons_of_mem d hx)
      rw [placeDraft_queue]
      exact h.place _ hd hf
    · rw [grant, if_neg hf]
      exact ⟨h.congr rfl rfl rfl, hds, fun _ => h.records_ne_nil hd (Bool.eq_false_iff.mpr hf)⟩

/-- The grant step at a store whose records are sound. -/
theorem grantStep_kept {s : State} (h : s.queue.Stored) (hw : ∀ d ∈ s.queue.waitList, d.entries.length ≤ 8) :
    (grantStep s).queue.Kept := grant_kept s.queue.waitList s h hw

/-- A draft of at most eight entries judged (R127). -/
theorem takeDraft_kept {d : Draft} {s : State} (h : s.queue.Kept) (hd : d.entries.length ≤ 8) : (takeDraft d s).queue.Kept := by
  by_cases hroom : s.queue.waitList = [] ∧ s.queue.fits d.entries.length = true
  · obtain ⟨hw, hf⟩ := hroom
    rw [takeDraft_places hw hf, placeDraft_queue]
    exact (h.stored.place _ hd hf).kept hw
  · have hnot : s.queue.waitList ≠ [] ∨ s.queue.fits d.entries.length = false := by
      rwa [not_and_or, Bool.not_eq_true] at hroom
    cases hp : d.policy with
    | wait =>
      rw [takeDraft_waits hnot hp]
      refine ⟨h.stored.congr rfl rfl rfl, fun x hx => ?_, fun _ => hnot.elim h.waiting_behind (h.stored.records_ne_nil hd)⟩
      obtain hx | hx := List.mem_append.mp hx
      · exact h.waiting_le x hx
      · rw [List.mem_singleton.mp hx]
        exact hd
    | drop =>
      rw [takeDraft_drops hnot hp]
      exact ⟨h.stored.congr rfl rfl rfl, h.waiting_le, h.waiting_behind⟩

/-- A WITHDRAW at the queue (R134). -/
theorem takeWithdraw_kept {g : Fin 8} {s : State} (h : s.queue.Kept) : (takeWithdraw g s).queue.Kept := by
  unfold takeWithdraw
  split
  · exact grantStep_kept (h.stored.congr rfl rfl rfl) fun d hd => h.waiting_le d (List.mem_of_mem_eraseP hd)
  · exact h

/-- QUEUE RELEASE. -/
theorem queueRelease_kept {s : State} (h : s.queue.Kept) : (queueRelease s).1.queue.Kept := by
  cases hr : s.queue.records with
  | nil =>
    rw [queueRelease_empty hr]
    exact h
  | cons r rs =>
    rw [queueRelease_releases hr]
    exact grantStep_kept (h.stored.release hr) h.waiting_le

/-- QUEUE FLUSH. -/
theorem queueFlush_kept {s : State} (h : s.queue.Kept) : (queueFlush s).1.queue.Kept :=
  grantStep_kept h.stored.flush h.waiting_le

/-- A write of WATERMARK (R141). -/
theorem writeWatermark_kept {w : Word} {s : State} (h : s.queue.Kept) : (writeWatermark w s).1.queue.Kept := by
  unfold writeWatermark
  split <;> rename_i hw
  · obtain ⟨⟨hrecords, hvalues, huse, -, -, hentries⟩, hwaiting, hbehind⟩ := h
    exact ⟨⟨hrecords, hvalues, huse, hw.1, hw.2, hentries⟩, hwaiting, hbehind⟩
  · exact h

end Sys2Proof.Machine
end

section
/-! What an operation leaves of the memberships, of the countdowns in service and of a sound store, and every operation of the
Count Engine and of the Snapshot Queue that moves no counter to another group (R55, R67, R75, R97, R122 to R124). -/

namespace Sys2Proof.Machine

/-- The part of the state that these conditions look at. -/
def State.servicePart (s : State) : Vector Counter 32 × Vector Group 8 × Queue × List DraftMessage :=
  (s.counters, s.groups, s.queue, s.paths.draftPath)

/-- A countdown in service stands between 1 and the period (R67, R75). -/
def Group.CountdownSound (x : Group) : Prop :=
  x.state ≠ .idle → x.period ≠ 0 → 1 ≤ x.countdown.toNat ∧ x.countdown.toNat ≤ x.period.toNat

/-- A group that was in service before, with the period and countdown it had. -/
theorem Group.CountdownSound.of_service {x y : Group} (h : x.CountdownSound) (hstate : y.state ≠ .idle → x.state ≠ .idle)
    (hperiod : y.period = x.period) (hcountdown : y.countdown = x.countdown) : y.CountdownSound := by
  intro hy hp
  rw [hperiod] at hp ⊢
  rw [hcountdown]
  exact h (hstate hy) hp

/-- At most eight entries in each draft on the draft path (R97). -/
def State.SentSound (s : State) : Prop := ∀ d ∈ draftsOnPath s.paths.draftPath, d.entries.length ≤ 8

/-- The draft path alone decides. -/
theorem State.SentSound.congr {s t : State} (h : s.SentSound) (hpath : t.paths.draftPath = s.paths.draftPath) : t.SentSound := by
  rw [SentSound, hpath]
  exact h

/-- A period other than 0 is at least 1. -/
theorem loaded_countdown {period : BitVec 16} (h : period ≠ 0) : 1 ≤ period.toNat ∧ period.toNat ≤ period.toNat := by
  bv_omega

/-- From `s` to `t` no counter moves to another group, each countdown stays sound, and so does the store with the drafts on their
way to it. -/
structure State.Serves (s t : State) : Prop where
  membership : ∀ k : Fin 32, (t.counter k).group = (s.counter k).group
  countdown : ∀ g : Fin 8, (s.group g).CountdownSound → (t.group g).CountdownSound
  store : (∀ g : Fin 8, (s.members g).length ≤ 8) → s.queue.Kept ∧ s.SentSound → t.queue.Kept ∧ t.SentSound

/-- The member lists depend on the group fields alone (R64). -/
theorem State.members_of_membership {s t : State} (h : ∀ k : Fin 32, (t.counter k).group = (s.counter k).group)
    (g : Fin 8) : t.members g = s.members g := by
  simp only [State.members, Counter.isMember, h]

namespace State.Serves

variable {s t u : State}

theorem refl (s : State) : s.Serves s := ⟨fun _ => rfl, fun _ => id, fun _ => id⟩

theorem trans (h : s.Serves t) (h' : t.Serves u) : s.Serves u where
  membership k := (h'.membership k).trans (h.membership k)
  countdown g := h'.countdown g ∘ h.countdown g
  store hm := h'.store (fun g => State.members_of_membership h.membership g ▸ hm g) ∘ h.store hm

/-- An accepted command or commit does what its owner does. -/
theorem accepted (h : s.Serves t) : s.Serves (accept t).1 := h

/-- A change of counters and groups, with the queue and the draft path as they were. -/
theorem of_engine (hmembership : ∀ k : Fin 32, (t.counter k).group = (s.counter k).group)
    (hcountdown : ∀ g : Fin 8, (s.group g).CountdownSound → (t.group g).CountdownSound)
    (hqueue : t.queue = s.queue) (hpath : t.paths.draftPath = s.paths.draftPath) : s.Serves t where
  membership := hmembership
  countdown := hcountdown
  store _ := fun ⟨hkept, hsent⟩ => ⟨hqueue ▸ hkept, hsent.congr hpath⟩

/-- A change of the queue and the draft path, with the counters and groups as they were. -/
theorem of_queue (hcounters : t.counters = s.counters) (hgroups : t.groups = s.groups)
    (hstore : s.queue.Kept ∧ s.SentSound → t.queue.Kept ∧ t.SentSound) : s.Serves t where
  membership k := congrArg _ (State.counter_congr hcounters k)
  countdown g h := by rwa [State.group_congr hgroups]
  store _ := hstore

/-- A change of other parts alone. -/
theorem of_part (h : t.servicePart = s.servicePart) : s.Serves t := by
  simp only [servicePart, Prod.mk.injEq] at h
  obtain ⟨hcounters, hgroups, hqueue, hpath⟩ := h
  exact of_queue hcounters hgroups fun ⟨hkept, hsent⟩ => ⟨hqueue ▸ hkept, hsent.congr hpath⟩

/-- A change of counters that moves none. -/
theorem mapCounters {f : Fin 32 → Counter → Counter} (s : State) (hf : ∀ k c, (f k c).group = c.group) :
    s.Serves (s.mapCounters f) :=
  of_engine (fun k => (congrArg _ (s.mapCounters_counter f k)).trans (hf k _))
    (fun g h => by rwa [s.mapCounters_group f g]) (s.mapCounters_queue f) (by rw [s.mapCounters_paths])

/-- A change of a group's members that moves none. -/
theorem mapMembers {f : Counter → Counter} (g : Fin 8) (s : State) (hf : ∀ c, (f c).group = c.group) :
    s.Serves (s.mapMembers g f) :=
  mapCounters s fun _ c => by
    split
    · exact hf c
    · rfl

/-- A change of one counter that does not move it. -/
theorem modifyCounter {f : Counter → Counter} (k : Fin 32) (s : State) (hf : (f (s.counter k)).group = (s.counter k).group) :
    s.Serves (s.modifyCounter k f) := by
  refine of_engine (fun j => ?_) (fun _ => id) rfl rfl
  rw [State.modifyCounter_counter]
  split <;> rename_i hj
  · exact hj ▸ hf
  · rfl

/-- A change of all groups that keeps their countdowns sound. -/
theorem mapGroups {f : Fin 8 → Group → Group} (s : State)
    (hf : ∀ g : Fin 8, (s.group g).CountdownSound → (f g (s.group g)).CountdownSound) : s.Serves (s.mapGroups f) :=
  of_engine (fun k => congrArg _ (s.mapGroups_counter f k)) (fun g h => by rw [s.mapGroups_group]; exact hf g h)
    (s.mapGroups_queue f) (by rw [s.mapGroups_paths])

/-- A change of one group that keeps its countdown sound. -/
theorem modifyGroup {g : Fin 8} {f : Group → Group} (s : State)
    (hf : (s.group g).CountdownSound → (f (s.group g)).CountdownSound) : s.Serves (s.modifyGroup g f) := by
  refine of_engine (fun _ => rfl) (fun j h => ?_) rfl rfl
  rw [State.modifyGroup_group]
  split <;> rename_i hj
  · exact hf (hj ▸ h)
  · exact h

/-- One operation after another. -/
theorem foldl {α : Type} {f : State → α → State} (hf : ∀ (u : State) (a : α), u.Serves (f u a)) (l : List α) (s : State) :
    s.Serves (l.foldl f s) :=
  foldl_keeps s.Serves f (fun u a h => h.trans (hf u a)) l s (refl s)

end State.Serves

open State (Serves)

/-! ## Captures, source events and ticks (R58, R60, R75, R87 to R99) -/

/-- A draft that joins the draft path. -/
theorem draftsOnPath_concat (ms : List DraftMessage) (d : Draft) : draftsOnPath (ms ++ [.draft d]) = draftsOnPath ms ++ [d] := by
  simp [draftsOnPath]

/-- A WITHDRAW that joins the draft path. -/
theorem draftsOnPath_concat_withdraw (ms : List DraftMessage) (g : Fin 8) :
    draftsOnPath (ms ++ [.withdraw g]) = draftsOnPath ms := by
  simp [draftsOnPath]

/-- A capture: its draft has an entry for each member (R91, R97). -/
theorem takeCapture_serves (g : Fin 8) (cause : CaptureCause) (s : State) : s.Serves (takeCapture g cause s) where
  membership k := by
    rw [takeCapture_counter]
    split <;> rfl
  countdown h hs := by
    rw [takeCapture_group]
    split <;> rename_i hh
    · refine (hh ▸ hs).of_service (fun hidle he => hidle ?_) rfl rfl
      simp [Group.afterCapture, he]
    · exact hs
  store hmembers := by
    rintro ⟨hqueue, hsent⟩
    rw [State.SentSound, takeCapture_draftPath, draftsOnPath_concat, takeCapture_changes]
    refine ⟨hqueue, fun d hd => ?_⟩
    obtain hd | hd := List.mem_append.mp hd
    · exact hsent d hd
    · rw [List.mem_singleton.mp hd, State.draftOf, List.length_map]
      exact hmembers g

/-- A missed capture. -/
theorem missCapture_serves (g : Fin 8) (s : State) : s.Serves (missCapture g s) :=
  (Serves.modifyGroup (g := g) (f := fun x => { x with missed := satInc x.missed }) s id).trans (.of_part rfl)

/-- A PERIODIC or OVERFLOW cause at a group. -/
theorem captureCause_serves (g : Fin 8) (cause : CaptureCause) (s : State) : s.Serves (captureCause g cause s) := by
  unfold captureCause
  split
  · exact takeCapture_serves g cause s
  · split
    · exact .refl s
    · exact missCapture_serves g s

/-- A chain request at its target. -/
theorem takeChainRequest_serves (r : ChainRequest) (s : State) : s.Serves (takeChainRequest r s) := by
  unfold takeChainRequest
  split
  · exact takeCapture_serves _ _ s
  · split
    · exact .of_part rfl
    · exact missCapture_serves _ s

/-- An event at the counters. -/
theorem countEvent_serves (src : Source) (a : Amount) (s : State) : s.Serves (countEvent src a s) :=
  .mapCounters s fun _ c => by
    split
    · exact congrArg Prod.fst (c.take_membership a _)
    · rfl

/-- The losses of an event noted. -/
theorem noteLosses_serves (lost : Fin 8 → Nat) (s : State) : s.Serves (noteLosses lost s) := by
  obtain ⟨n, h⟩ := noteLosses_eq lost s
  have hgroups : s.Serves (s.mapGroups fun g x => x.noteLoss (lost g)) := .mapGroups s fun g hg => by
    unfold Group.noteLoss
    split <;> exact hg
  rw [h]
  exact hgroups.trans (.of_part (by simp only [State.servicePart, State.mapGroups_paths]))

/-- One source event. -/
theorem applySource_serves (src : Source) (a : Amount) (s : State) : s.Serves (applySource src a s) := by
  have hgroup (w : List (Fin 32)) (u : State) (g : Fin 8) : u.Serves (overflowCauseAt w u g) := by
    unfold overflowCauseAt
    dsimp only
    split
    · exact captureCause_serves g _ u
    · exact .refl u
  have hcounted : s.Serves (s.afterCounting src a) := (countEvent_serves src a s).trans (noteLosses_serves _ _)
  have hsent (u : State) (ks : List (Fin 32)) : u.Serves (u.sendOverflows ks) := .of_part rfl
  rw [applySource_eq]
  exact (hcounted.trans (.foldl (hgroup _) groupIds _)).trans (hsent _ _)

/-- A countdown at a tick: one less, or the period again (R75). -/
theorem countdownAt_serves (s : State) (g : Fin 8) : s.Serves (countdownAt s g) := by
  unfold countdownAt
  dsimp only
  split
  · split <;> rename_i hruns hzero
    · have hreload : s.Serves (s.modifyGroup g fun y => { y with countdown := y.period }) :=
        .modifyGroup s fun _ _ hp => loaded_countdown hp
      exact hreload.trans (captureCause_serves g _ _)
    · refine .modifyGroup s fun h hs hp => ?_
      obtain ⟨hlow, hhigh⟩ := h hs hp
      have hne : (s.group g).countdown ≠ 1 := fun h1 => hzero (by rw [h1]; rfl)
      dsimp only at hlow hhigh ⊢
      bv_omega
  · exact .refl s

/-- A tick at the Count Engine. -/
theorem takeEngineTick_serves (s : State) : s.Serves (takeEngineTick s) :=
  (applySource_serves .tick 1 s).trans (.foldl countdownAt_serves groupIds _)

/-- An AGENT_DOWN notice. -/
theorem markStale_serves (a : Fin 8) (s : State) : s.Serves (markStale a s) :=
  .mapCounters s fun _ c => by split <;> rfl

/-! ## Group commands and answers (R67 to R74, R81, R82, R100 to R106) -/

section Groups

variable (g : Fin 8) (s : State)

/-- GROUP START loads the countdown with the period (R67). -/
theorem groupStart_serves : s.Serves (groupStart g s).1 := by
  have hstart : s.Serves (s.modifyGroup g fun x => { x with state := .running, countdown := x.period }) :=
    .modifyGroup s fun _ _ hp => loaded_countdown hp
  unfold groupStart
  split
  · split
    · exact .refl s
    · exact .accepted (hstart.trans (.mapMembers g _ fun _ => rfl))
  · exact .refl s

/-- A group in service that stays so. -/
theorem changeState_serves {st : GroupState} (h : (s.group g).state ≠ .idle) :
    s.Serves (s.modifyGroup g fun x => { x with state := st }) :=
  .modifyGroup s fun hs => hs.of_service (fun _ => h) rfl rfl

/-- GROUP HOLD. -/
theorem groupHold_serves : s.Serves (groupHold g s).1 := by
  unfold groupHold
  split <;> rename_i hs
  · exact .refl s
  · exact .accepted (changeState_serves g s (by rw [hs]; exact nofun))
  · exact .refl s
  · exact .accepted (changeState_serves g s (by rw [hs]; exact nofun))

/-- GROUP RESUME. -/
theorem groupResume_serves : s.Serves (groupResume g s).1 := by
  unfold groupResume
  split <;> rename_i hs
  · exact .refl s
  · exact .refl s
  · exact .accepted (changeState_serves g s (by rw [hs]; exact nofun))
  · exact .accepted (changeState_serves g s (by rw [hs]; exact nofun))

/-- A WITHDRAW is no draft. -/
theorem withdrawIfOutstanding_serves : s.Serves (withdrawIfOutstanding g s) := by
  unfold withdrawIfOutstanding
  split
  · refine .of_queue rfl rfl fun ⟨hqueue, hsent⟩ => ⟨hqueue, ?_⟩
    rw [State.SentSound, State.sendDraft_paths, draftsOnPath_concat_withdraw]
    exact hsent
  · exact .refl s

/-- GROUP STOP. -/
theorem groupStop_serves : s.Serves (groupStop g s).1 := by
  have hstop : s.Serves (s.modifyGroup g fun x => { x with state := .idle, stallNoted := false }) :=
    .modifyGroup s fun _ hs => absurd rfl hs
  unfold groupStop
  split
  · exact .refl s
  · exact .accepted (hstop.trans (withdrawIfOutstanding_serves g _))

/-- GROUP CAPTURE. -/
theorem groupCapture_serves : s.Serves (groupCapture g s).1 := by
  unfold groupCapture
  split
  · exact .accepted (takeCapture_serves g _ s)
  · split <;> exact .refl s

/-- GROUP CLEAR. -/
theorem groupClear_serves : s.Serves (groupClear g s).1 := by
  unfold groupClear
  split
  · exact .accepted (.mapMembers g s fun _ => rfl)
  · exact .refl s

/-- GROUP RELOAD. -/
theorem groupReload_serves : s.Serves (groupReload g s).1 := by
  unfold groupReload
  split
  · exact .accepted (.mapMembers g s fun _ => rfl)
  · exact .refl s

/-- COUNTING RESET. -/
theorem countingReset_serves : s.Serves (countingReset s).1 := by
  have hwithdrawn : s.Serves (groupIds.foldl (fun u g => withdrawIfOutstanding g u) s) :=
    .foldl (fun u g => withdrawIfOutstanding_serves g u) groupIds s
  have hgroups (u : State) : u.Serves (u.mapGroups fun _ x => x.countingReset) :=
    .mapGroups u fun _ _ hs => absurd rfl hs
  exact .accepted ((hwithdrawn.trans (hgroups _)).trans (.mapCounters _ fun _ _ => rfl))

/-- A final answer at its group. -/
theorem clearOutstanding_serves : s.Serves (clearOutstanding g s) := .modifyGroup s id

/-- A WAITING answer. -/
theorem stall_serves : s.Serves (s.modifyGroup g Group.stall) := .modifyGroup s fun h => by
  unfold Group.stall
  split <;> rename_i hs
  · exact h.of_service (fun _ => by rw [hs]; exact nofun) rfl rfl
  · exact h.of_service (fun _ => by rw [hs]; exact nofun) rfl rfl
  · exact h

/-- A PLACED answer at a stalled group. -/
theorem unstall_serves : s.Serves (s.modifyGroup g Group.unstall) := .modifyGroup s fun h => by
  unfold Group.unstall
  split <;> rename_i hs
  · exact h.of_service (fun _ => by rw [hs]; exact nofun) rfl rfl
  · exact h.of_service (fun _ => by rw [hs]; exact nofun) rfl rfl
  · exact h

end Groups

/-! ## Commits to counter and group records (R51 to R56, R79, R80) -/

section Records

variable {s : State}

/-- A value that a field takes, or RANGE: what the acceptance does. -/
theorem orRange_serves {α : Type} {v : Option α} {f : α → State → State × ResultCode}
    (h : ∀ x, v = some x → s.Serves (f x s).1) : s.Serves (orRange v f s).1 := by
  unfold orRange
  split
  · exact .refl s
  · exact h _ rfl

/-- A commit to a configuration field of a counter. -/
theorem writeCounter_serves (k : Fin 32) (f : CounterField) (v : Latch) : s.Serves (writeCounter k f v s).1 := by
  have hconfig {α : Type} (v : Option α) (f : α → Counter → Counter) (hf : ∀ x c, (f x c).group = c.group) :
      s.Serves (configWrite k v f s).1 := by
    obtain h | ⟨x, -, h⟩ := configWrite_cases k v f s
    · rw [h]
      exact .refl s
    · rw [h]
      exact .modifyCounter k s (hf x _)
  cases f with
  | enabled | source | mode | bandLow | bandHigh | overflowCapture => exact hconfig _ _ fun _ _ => rfl
  | group | value | preset | inside | wrapped | stale => exact .refl s

/-- A commit to a counter's value or preset. -/
theorem writeContents_serves (k : Fin 32) (v : Latch) {f : Tally → Counter → Counter} (hf : ∀ x c, (f x c).group = c.group) :
    s.Serves (writeContents k v f s).1 := by
  unfold writeContents
  split
  · exact orRange_serves fun x _ => .accepted (.modifyCounter k s (hf x _))
  · exact .refl s

/-- A commit to a field of a group, which is taken in IDLE alone (R79). -/
theorem writeGroup_serves (g : Fin 8) (f : GroupField) (v : Latch) : s.Serves (writeGroup g f v s).1 := by
  have hconfig {α : Type} (v : Option α) (f : α → Group → Group) (hf : ∀ x y, (f x y).state = y.state) :
      s.Serves (groupConfigWrite g v f s).1 := by
    unfold groupConfigWrite
    split <;> rename_i hi
    · exact orRange_serves fun x _ => .accepted (.modifyGroup s fun _ hs => absurd ((hf x _).trans hi) hs)
    · exact .refl s
  cases f with
  | policy | holdAfter | reloadAfter | period | chainNext => exact hconfig _ _ fun _ _ => rfl
  | state | returnState | members | countdown | outstanding | missed | lost | placed | dropped | abandoned => exact .refl s

end Records

/-! ## The Snapshot Queue (R127 to R134, R139 to R141) -/

/-- The grant step looks neither at the counters nor at the groups, and sends no draft. -/
theorem grantStep_frame (s : State) : (grantStep s).counters = s.counters ∧ (grantStep s).groups = s.groups ∧
    (grantStep s).paths.draftPath = s.paths.draftPath := by
  rw [grantStep, grant_eq, placeAll_eq]
  exact ⟨rfl, rfl, rfl⟩

/-- An operation of the queue, with the counters, the groups and the draft path as they were. -/
theorem State.Serves.of_store {s t : State} (hcounters : t.counters = s.counters) (hgroups : t.groups = s.groups)
    (hpath : t.paths.draftPath = s.paths.draftPath) (hstore : s.queue.Kept → t.queue.Kept) : s.Serves t :=
  .of_queue hcounters hgroups fun ⟨hqueue, hsent⟩ => ⟨hstore hqueue, hsent.congr hpath⟩

/-- The judgement of a draft looks neither at the counters nor at the groups, and sends no draft. -/
theorem takeDraft_frame (d : Draft) (s : State) : (takeDraft d s).counters = s.counters ∧
    (takeDraft d s).groups = s.groups ∧ (takeDraft d s).paths.draftPath = s.paths.draftPath := by
  obtain h | h | h := takeDraft_cases d s <;> rw [h]
  · rw [placeDraft_frame]
    exact ⟨rfl, rfl, rfl⟩
  · exact ⟨rfl, rfl, rfl⟩
  · exact ⟨rfl, rfl, rfl⟩

/-- A DRAFT taken off its path and judged. -/
theorem takeDraft_serves {s : State} {d : Draft} {rest : List DraftMessage} (hpath : s.paths.draftPath = .draft d :: rest) :
    s.Serves (takeDraft d { s with paths := { s.paths with draftPath := rest } }) := by
  obtain ⟨hcounters, hgroups, hrest⟩ := takeDraft_frame d { s with paths := { s.paths with draftPath := rest } }
  refine .of_queue hcounters hgroups fun ⟨hqueue, hsent⟩ => ?_
  have hdrafts : ∀ x ∈ d :: draftsOnPath rest, x.entries.length ≤ 8 := by
    rw [State.SentSound, hpath] at hsent
    exact hsent
  refine ⟨takeDraft_kept (s := { s with paths := { s.paths with draftPath := rest } }) hqueue (hdrafts d List.mem_cons_self),
    fun x hx => hdrafts x (List.mem_cons_of_mem d ?_)⟩
  rwa [hrest] at hx

/-- A WITHDRAW taken off its path, at the queue. -/
theorem takeWithdraw_serves {s : State} {g : Fin 8} {rest : List DraftMessage}
    (hpath : s.paths.draftPath = .withdraw g :: rest) :
    s.Serves (takeWithdraw g { s with paths := { s.paths with draftPath := rest } }) := by
  have hpop : s.Serves { s with paths := { s.paths with draftPath := rest } } := by
    refine .of_queue rfl rfl fun ⟨hqueue, hsent⟩ => ⟨hqueue, ?_⟩
    rw [State.SentSound, hpath] at hsent
    exact hsent
  refine hpop.trans ?_
  have hkept := takeWithdraw_kept (g := g) (s := { s with paths := { s.paths with draftPath := rest } })
  unfold takeWithdraw at hkept ⊢
  split
  · obtain ⟨hcounters, hgroups, hsame⟩ := grantStep_frame
      (abandonDraft g { s with paths := { s.paths with draftPath := rest } })
    rw [if_pos ‹_›] at hkept
    exact .of_store hcounters hgroups hsame hkept
  · exact .refl _

/-- QUEUE RELEASE. -/
theorem queueRelease_serves (s : State) : s.Serves (queueRelease s).1 := by
  have hkept := queueRelease_kept (s := s)
  cases hr : s.queue.records with
  | nil =>
    rw [queueRelease_empty hr]
    exact .refl s
  | cons r rs =>
    rw [queueRelease_releases hr] at hkept ⊢
    obtain ⟨hcounters, hgroups, hsame⟩ := grantStep_frame { s with queue :=
      { s.queue with records := rs, valueUse := s.queue.valueUse - r.entries.length } }
    exact .of_store hcounters hgroups hsame hkept

/-- QUEUE FLUSH. -/
theorem queueFlush_serves (s : State) : s.Serves (queueFlush s).1 := by
  obtain ⟨hcounters, hgroups, hsame⟩ := grantStep_frame { s with queue := { s.queue with records := [], valueUse := 0 } }
  exact .of_store hcounters hgroups hsame queueFlush_kept

/-- A write of WATERMARK. -/
theorem writeWatermark_serves (w : Word) (s : State) : s.Serves (writeWatermark w s).1 := by
  have hkept := writeWatermark_kept (w := w) (s := s)
  unfold writeWatermark at hkept ⊢
  split
  · rw [if_pos ‹_›] at hkept
    exact .of_store rfl rfl rfl hkept
  · exact .refl s

end Sys2Proof.Machine
end

section
/-! Every command keeps the store sound, and the countdowns and member lists of groups in service, and so does every step (R55,
R67, R75, R97, R122 to R124, R141). -/

namespace Sys2Proof.Machine

open State (Serves)

/-! ## The conditions from one step to the next -/

/-- From `s` to `t` the store and the countdowns stay sound, and a group in service at both has the same members. -/
structure State.Upholds (s t : State) : Prop where
  store : s.queue.Sound ∧ s.EightAtMost → t.queue.Sound ∧ t.EightAtMost
  countdowns : s.CountdownsSound → t.CountdownsSound
  members : ∀ g : Fin 8, (s.group g).state ≠ .idle → (t.group g).state ≠ .idle → t.members g = s.members g

/-- A sound store, with its member lists, its own contents and the drafts on their way apart. -/
theorem State.storeSound_iff {s : State} :
    s.queue.Sound ∧ s.EightAtMost ↔ (∀ g : Fin 8, (s.members g).length ≤ 8) ∧ s.queue.Kept ∧ s.SentSound := by
  rw [Queue.kept_iff]
  exact ⟨fun ⟨hq, hm, hp, hw, hr⟩ => ⟨hm, ⟨hq, hw, hr⟩, hp⟩, fun ⟨hm, ⟨hq, hw, hr⟩, hp⟩ => ⟨hq, hm, hp, hw, hr⟩⟩

/-- What serves without moving a counter upholds the conditions. -/
theorem State.Serves.upholds {s t : State} (h : s.Serves t) : s.Upholds t where
  store hs := by
    obtain ⟨hmembers, hstore⟩ := State.storeSound_iff.mp hs
    exact State.storeSound_iff.mpr
      ⟨fun g => State.members_of_membership h.membership g ▸ hmembers g, h.store hmembers hstore⟩
  countdowns hs g := h.countdown g (hs g)
  members g _ _ := State.members_of_membership h.membership g

namespace State.Upholds

variable {s t u : State}

theorem refl (s : State) : s.Upholds s := (Serves.refl s).upholds

/-- A change of other parts before and after is no part of the conditions. -/
theorem congr {s' t' : State} (h : s'.Upholds t') (hs : s'.servicePart = s.servicePart)
    (ht : t.servicePart = t'.servicePart) : s.Upholds t := by
  have hbefore : s.Serves s' := .of_part hs
  have hafter : t'.Serves t := .of_part ht
  simp only [servicePart, Prod.mk.injEq] at hs ht
  refine ⟨hafter.upholds.store ∘ h.store ∘ hbefore.upholds.store,
    hafter.upholds.countdowns ∘ h.countdowns ∘ hbefore.upholds.countdowns, fun g hsg htg => ?_⟩
  rw [← State.group_congr hs.2.1] at hsg
  rw [State.group_congr ht.2.1] at htg
  rw [State.members_congr ht.1, h.members g hsg htg, State.members_congr hs.1]

/-- Blocks at their reset values, and no draft on its way. -/
theorem of_reset (s : State) (h : t.servicePart = State.reset.servicePart) : s.Upholds t := by
  have hreset : s.Upholds State.reset :=
    ⟨fun _ => ⟨reset_storeSound, reset_eightAtMost⟩, fun _ => reset_countdownsSound,
     fun g _ hg => absurd (by rw [reset_group]; rfl) hg⟩
  exact hreset.congr rfl h

end State.Upholds

open State (Upholds)

/-! ## A counter that moves (R54, R55) -/

/-- What a write of membership does: nothing, or the counter moves, out of a group and into one that are not in service, where
there is room. -/
theorem writeMembership_cases (k : Fin 32) (v : Latch) (s : State) : (writeMembership k v s).1 = s ∨
    ∃ new : Option (Fin 8), (writeMembership k v s).1 = (s.modifyCounter k fun y => { y with group := new, inside := false }) ∧
      (∀ g : Fin 8, (s.counter k).group = some g ∨ new = some g → (s.group g).state = .idle) ∧
      s.groupFull (s.counter k).group new = false := by
  by_cases hu : s.membershipUnlocked k v = true
  · cases hv : groupNumberOf v with
    | none => exact .inl (congrArg Prod.fst (writeMembership_range hu hv))
    | some new =>
      cases hf : s.groupFull (s.counter k).group new with
      | true => exact .inl (congrArg Prod.fst (writeMembership_full hu hv hf))
      | false =>
        refine .inr ⟨new, congrArg Prod.fst (writeMembership_takes hu hv hf), fun g hg => ?_, hf⟩
        refine State.membershipUnlocked_iff.mp hu g (hg.imp_right fun hnew => namedGroup_iff.mp ?_)
        rw [namedGroup, hv, hnew]
        rfl
  · exact .inl (congrArg Prod.fst (writeMembership_locked hu))

section Moves

variable {k : Fin 32} {new : Option (Fin 8)} {s : State}

/-- The group fields after a counter has moved. -/
theorem moved_group (j : Fin 32) : ((s.modifyCounter k fun y => { y with group := new, inside := false }).counter j).group =
    if j = k then new else (s.counter j).group := by
  rw [State.modifyCounter_counter]
  split <;> rfl

/-- Who is in a group after a counter has moved. -/
theorem mem_members_moved {g : Fin 8} {j : Fin 32} :
    j ∈ (s.modifyCounter k fun y => { y with group := new, inside := false }).members g ↔
      if j = k then new = some g else j ∈ s.members g := by
  rw [State.mem_members, moved_group]
  split
  · exact .rfl
  · exact State.mem_members.symm

/-- The group lists are ascending, and hold no counter twice. -/
theorem members_nodup (s : State) (g : Fin 8) : (s.members g).Nodup := (List.nodup_finRange 32).filter _

/-- A group that the counter neither leaves nor joins keeps its members. -/
theorem members_moved {g : Fin 8} (hold : (s.counter k).group ≠ some g) (hnew : new ≠ some g) :
    (s.modifyCounter k fun y => { y with group := new, inside := false }).members g = s.members g := by
  refine List.filter_congr fun j _ => ?_
  rw [Bool.eq_iff_iff, Counter.isMember_iff, Counter.isMember_iff, moved_group]
  split <;> rename_i hj
  · exact hj ▸ iff_of_false hnew hold
  · exact .rfl

/-- With room in the group that the counter joins, no group has more than eight members (R54, R55). -/
theorem members_moved_le (h : ∀ g : Fin 8, (s.members g).length ≤ 8) (hf : s.groupFull (s.counter k).group new = false)
    (g : Fin 8) : ((s.modifyCounter k fun y => { y with group := new, inside := false }).members g).length ≤ 8 := by
  have hnodup := members_nodup (s.modifyCounter k fun y => { y with group := new, inside := false }) g
  by_cases hjoins : new = some g ∧ (s.counter k).group ≠ some g
  · obtain ⟨rfl, hold⟩ := hjoins
    have hroom : (s.members g).length < 8 := by
      rw [Bool.eq_false_iff, Ne, State.groupFull_some] at hf
      exact Nat.lt_of_not_le fun h8 => hf ⟨hold, h8⟩
    have hsub : (s.modifyCounter k fun y => { y with group := some g, inside := false }).members g ⊆ k :: s.members g := by
      intro j hj
      rw [mem_members_moved] at hj
      split at hj <;> rename_i hjk
      · exact hjk ▸ List.mem_cons_self
      · exact List.mem_cons_of_mem k hj
    exact Nat.le_trans (List.subperm_of_subset hnodup hsub).length_le hroom
  · have hsub : (s.modifyCounter k fun y => { y with group := new, inside := false }).members g ⊆ s.members g := by
      intro j hj
      rw [mem_members_moved] at hj
      split at hj <;> rename_i hjk
      · subst hjk
        exact State.mem_members.mpr (by_contra fun hold => hjoins ⟨hj, hold⟩)
      · exact hj
    exact Nat.le_trans (List.subperm_of_subset hnodup hsub).length_le (h g)

end Moves

/-- A commit to a counter's group field. -/
theorem writeMembership_upholds (k : Fin 32) (v : Latch) (s : State) : s.Upholds (writeMembership k v s).1 := by
  obtain h | ⟨new, h, hidle, hf⟩ := writeMembership_cases k v s <;> rw [h]
  · exact .refl s
  · refine ⟨fun hs => ?_, id, fun g hg _ => members_moved (fun e => hg (hidle g (.inl e))) fun e => hg (hidle g (.inr e))⟩
    obtain ⟨hmembers, hstore⟩ := State.storeSound_iff.mp hs
    exact State.storeSound_iff.mpr ⟨members_moved_le hmembers hf, hstore⟩

/-! ## The shared forms of a row -/

/-- Where the answer is a next state, that state upholds the conditions of `s`. -/
def State.UpholdsBy (s : State) (o : Answered) : Prop := ∀ t : State, o = .next t → s.Upholds t

section Forms

variable {s : State}

/-- A next state. -/
theorem upholdsBy_next {t : State} (h : s.Upholds t) : s.UpholdsBy (.next t) := by
  rintro u hu
  cases hu
  exact h

/-- No change. -/
theorem upholdsBy_same : s.UpholdsBy (.next s) := upholdsBy_next (.refl s)

/-- An event. -/
theorem upholdsBy_event {f : State → State} (h : s.Serves (f s)) : s.UpholdsBy (event s f) := by
  intro t ht
  obtain ⟨-, rfl⟩ | ⟨-, rfl⟩ := event_cases ht
  · exact h.upholds
  · exact .refl _

/-- An event under a condition. -/
theorem upholdsBy_eventIf {p : Prop} [Decidable p] {f : State → State} (h : s.Serves (f s)) :
    s.UpholdsBy (if p then event s f else .next s) := by
  split
  · exact upholdsBy_event h
  · exact upholdsBy_same

/-- A host access. -/
theorem upholdsBy_hostAccess {c : CyclePhase} {acc : Access} {mine : State → Bool} {effect : State → State}
    (h : ∀ u : State, u.Upholds (effect u)) : s.UpholdsBy (hostAccess c acc mine effect s) := by
  intro t ht
  obtain ⟨b, rfl⟩ | ⟨-, -, b, b', rfl⟩ := hostAccess_cases ht
  · exact (State.Upholds.refl s).congr rfl rfl
  · exact (h (s.withBus b)).congr rfl rfl

/-- A host access of a block outside. -/
theorem upholdsBy_access {c : CyclePhase} {acc : Access} {mine : State → Bool} {effect : State → State}
    (h : ∀ u : State, u.Serves (effect u)) : s.UpholdsBy (hostAccess c acc mine effect s) :=
  upholdsBy_hostAccess fun u => (h u).upholds

/-- A command. -/
theorem upholdsBy_command {c : CyclePhase} {code op : BitVec 8} {owner : State → State × ResultCode}
    (h : ∀ u : State, u.Serves (owner u).1) : s.UpholdsBy (command c code op owner s) :=
  upholdsBy_access fun u => (h u).trans (.of_part rfl)

/-- A group command. -/
theorem upholdsBy_groupCommand {c : CyclePhase} {code : BitVec 8} {g : Fin 8} {owner : Fin 8 → State → State × ResultCode}
    (h : ∀ u : State, u.Serves (owner g u).1) : s.UpholdsBy (groupCommand c code g owner s) :=
  upholdsBy_access fun u => (h u).trans (.of_part rfl)

/-- A commit, whichever field is selected. -/
theorem upholdsBy_tableWrite {c : CyclePhase} {w : Word}
    {owners : Option Selection → Option (Latch → State → State × ResultCode)}
    (h : ∀ sel f, owners sel = some f → ∀ (v : Latch) (u : State), u.Upholds (f v u).1) :
    s.UpholdsBy (tableWrite c w owners s) := by
  refine upholdsBy_hostAccess fun u => ?_
  unfold commitTo
  split <;> rename_i hf
  · exact (h _ _ hf (u.host.commitValue w) (u.beforeCommit w)).congr rfl rfl
  · exact .refl u

/-- The arrival of an answer: the message off its path, and what it makes of its group. -/
theorem upholdsBy_answerArrives {kind : AnswerKind} {f : Fin 8 → State → State}
    (h : ∀ (g : Fin 8) (u : State), u.Serves (f g u)) : s.UpholdsBy (answerArrives kind f s) := by
  intro t ht
  obtain rfl | ⟨-, g, rest, -, rfl⟩ := answerArrives_cases ht
  · exact .refl _
  · exact (h g { s with paths := { s.paths with answers := rest } }).upholds.congr rfl rfl

end Forms

/-! ## Blocks outside: the Timebase, the Line Inputs, the Tally Receiver, the Host Port -/

section Outside

variable (s : State)

/-- TIMEBASE START. -/
theorem timebaseStart_serves : s.Serves (timebaseStart s).1 := by
  unfold timebaseStart
  split <;> exact .of_part rfl

/-- TIMEBASE STOP. -/
theorem timebaseStop_serves : s.Serves (timebaseStop s).1 := by
  unfold timebaseStop
  split <;> exact .of_part rfl

/-- A commit to the period code. -/
theorem writePeriodCode_serves (v : Latch) : s.Serves (writePeriodCode v s).1 := by
  unfold writePeriodCode
  split <;> exact .of_part rfl

/-- A commit to the epoch. -/
theorem writeEpoch_serves (v : Latch) : s.Serves (writeEpoch v s).1 := by
  unfold writeEpoch
  split <;> exact .of_part rfl

/-- A recognised change of level. -/
theorem changeLine_serves (n : Fin 16) : s.Serves (changeLine n s) := by
  rw [changeLine_eq]
  exact .of_part rfl

/-- A commit to a line record. -/
theorem writeLine_serves (n : Fin 16) (f : LineField) (v : Latch) : s.Serves (writeLine n f v s).1 := by
  cases f with
  | enabled | edge =>
    simp only [writeLine]
    split <;> exact .of_part rfl
  | level => exact .refl s

/-- A good frame changes the receiver, the agents and other paths. -/
theorem goodFrame_serves (x : Frame) : s.Serves (goodFrame x s) := by
  cases he : (s.agent x.agent).enabled with
  | false =>
    rw [goodFrame_disabled he]
    exact .of_part rfl
  | true =>
    obtain ⟨missed, notices, hgood⟩ := goodFrame_accepts he
    rw [hgood]
    exact .of_part rfl

/-- A complete frame. -/
theorem judgeFrame_serves (f : BitVec 32) : s.Serves (judgeFrame f s) := by
  unfold judgeFrame
  split
  · exact .of_part rfl
  · split
    · exact goodFrame_serves s _
    · exact .of_part rfl

/-- A rising edge of TCLK. -/
theorem takeBit_serves (bit : Bool) : s.Serves (takeBit bit s) := by
  have hwait : s.Serves ((s.withQuiet false).withReception .wait) := .of_part rfl
  unfold takeBit
  dsimp only
  split
  · exact .of_part rfl
  · exact .of_part rfl
  · split <;> exact .of_part rfl
  · split
    · exact .of_part rfl
    · exact hwait.trans (judgeFrame_serves _ _)

/-- The expiry of the quiet measurement. -/
theorem expireQuiet_serves : s.Serves (expireQuiet s) := by
  unfold expireQuiet
  dsimp only
  split <;> exact .of_part rfl

/-- A tick at the receiver. -/
theorem receiverTick_serves : s.Serves (takeReceiverTick (popReceiverTick s)) := by
  rw [takeReceiverTick_eq]
  exact .of_part rfl

/-- LINK RESTART. -/
theorem linkRestart_serves : s.Serves (linkRestart s).1 := by
  rw [linkRestart_eq]
  exact .of_part rfl

/-- LINK CLEAR COUNTS. -/
theorem linkClearCounts_serves : s.Serves (linkClearCounts s).1 := .of_part rfl

/-- A commit to the receiver record. -/
theorem writeReceiver_serves (f : ReceiverField) (v : Latch) : s.Serves (writeReceiver f v s).1 := by
  cases f with
  | enabled =>
    simp only [writeReceiver]
    split
    · exact .refl s
    · split
      · exact .refl s
      · split <;> exact .of_part rfl
  | checkErrors | framingErrors | unexpected => exact .refl s

/-- A commit to an agent's enabled field. -/
theorem writeAgentEnabled_serves (a : Fin 8) (v : Latch) : s.Serves (writeAgentEnabled a v s).1 := by
  unfold writeAgentEnabled
  split
  · exact .refl s
  · split
    · exact .refl s
    · split
      · exact .of_part rfl
      · rw [disableAgent_eq]
        exact .of_part rfl

/-- A commit to a silence limit. -/
theorem writeSilenceLimit_serves (a : Fin 8) (v : Latch) : s.Serves (writeSilenceLimit a v s).1 := by
  unfold writeSilenceLimit
  split <;> exact .of_part rfl

/-- A read of the window. -/
theorem readWindow_serves (offset : BitVec 6) : s.Serves (readWindow offset s) := by
  unfold readWindow
  split <;> exact .of_part rfl

/-- A notice taken off its path. -/
theorem frontNotice_serves {r : Reporter} {m : Notice} {t : State} (h : frontNotice r s = some (m, t)) : s.Serves t := by
  cases r <;>
  · simp only [frontNotice] at h
    split at h <;> cases h
    exact .of_part rfl

end Outside

/-! ## Rows that look at the front of a path, at the mode or at the state -/

section Arrivals

variable (s : State)

/-- INTERVAL_EXPIRY. -/
theorem execIntervalExpiry_upholds : s.UpholdsBy (execIntervalExpiry s) := by
  unfold execIntervalExpiry
  split
  · exact upholdsBy_same
  · exact upholdsBy_event (.of_part rfl)

/-- RECEIVER_TICK. -/
theorem execReceiverTick_upholds : s.UpholdsBy (execReceiverTick s) := by
  unfold execReceiverTick
  split
  · exact upholdsBy_same
  · exact upholdsBy_event (receiverTick_serves s)

/-- SOURCE_EVENT. -/
theorem execSourceEvent_upholds (path : SourcePath) : s.UpholdsBy (execSourceEvent path s) := by
  have hfront {src : Source} {a : Amount} {t : State} (h : frontSource path s = some (src, a, t)) : s.Serves t := by
    cases path <;>
    · simp only [frontSource] at h
      split at h <;> cases h
      exact .of_part rfl
  unfold execSourceEvent
  split <;> rename_i hf
  · exact upholdsBy_same
  · exact upholdsBy_event ((hfront hf).trans (applySource_serves _ _ _))

/-- A tick taken off the path to the Count Engine. -/
theorem engineTick_serves : s.Serves (takeEngineTick (popEngineTick s)) := by
  have hpop : s.Serves (popEngineTick s) := .of_part rfl
  exact hpop.trans (takeEngineTick_serves _)

/-- ENGINE_TICK. -/
theorem execEngineTick_upholds : s.UpholdsBy (execEngineTick s) := by
  unfold execEngineTick
  split
  · exact upholdsBy_same
  · exact upholdsBy_event (engineTick_serves s)

/-- OVERFLOW_EVENT. -/
theorem execOverflowEvent_upholds : s.UpholdsBy (execOverflowEvent s) := by
  unfold execOverflowEvent
  split
  · exact upholdsBy_same
  · rename_i k rest _
    have hpop : s.Serves { s with paths := { s.paths with overflows := rest } } := .of_part rfl
    exact upholdsBy_event (hpop.trans (applySource_serves _ _ _))

/-- PLACED_EVENT. -/
theorem execPlacedEvent_upholds : s.UpholdsBy (execPlacedEvent s) := by
  unfold execPlacedEvent
  split
  · exact upholdsBy_same
  · rename_i g rest _
    have hpop : s.Serves { s with paths := { s.paths with placements := rest } } := .of_part rfl
    exact upholdsBy_event (hpop.trans (applySource_serves _ _ _))

/-- AGENT_DOWN. -/
theorem execAgentDown_upholds : s.UpholdsBy (execAgentDown s) := by
  unfold execAgentDown
  split
  · rename_i a rest _
    have hpop : s.Serves { s with paths := { s.paths with linkToEngine := rest } } := .of_part rfl
    exact upholdsBy_event (hpop.trans (markStale_serves a _))
  · exact upholdsBy_same

/-- CHAIN_REQUEST. -/
theorem execChainRequest_upholds : s.UpholdsBy (execChainRequest s) := by
  unfold execChainRequest
  split
  · exact upholdsBy_same
  · rename_i r rest _
    have hpop : s.Serves { s with paths := { s.paths with chainRequests := rest } } := .of_part rfl
    exact upholdsBy_event (hpop.trans (takeChainRequest_serves r _))

/-- DRAFT. -/
theorem execDraft_upholds : s.UpholdsBy (execDraft s) := by
  unfold execDraft
  split <;> rename_i hd
  · exact upholdsBy_event (takeDraft_serves hd)
  · exact upholdsBy_same

/-- WITHDRAW. -/
theorem execWithdraw_upholds : s.UpholdsBy (execWithdraw s) := by
  unfold execWithdraw
  split <;> rename_i hd
  · exact upholdsBy_event (takeWithdraw_serves hd)
  · exact upholdsBy_same

/-- ERROR_REPORT. -/
theorem execErrorReport_upholds (r : Reporter) : s.UpholdsBy (execErrorReport r s) := by
  unfold execErrorReport
  split <;> rename_i hf
  · exact upholdsBy_event ((frontNotice_serves s hf).trans (.of_part rfl))
  · exact upholdsBy_same

/-- STATUS_EVENT. -/
theorem execStatusEvent_upholds (r : Reporter) : s.UpholdsBy (execStatusEvent r s) := by
  unfold execStatusEvent
  split <;> rename_i hf
  · exact upholdsBy_event ((frontNotice_serves s hf).trans (.of_part rfl))
  · exact upholdsBy_same

/-- BUS_CYCLE_END. -/
theorem execBusCycleEnd_upholds (csHigh : Bool) : s.UpholdsBy (execBusCycleEnd csHigh s) := by
  have hbus (b : Bus) : s.Serves (s.withBus b) := .of_part rfl
  unfold execBusCycleEnd
  split
  · exact upholdsBy_same
  · exact upholdsBy_next (hbus _).upholds
  · exact upholdsBy_next (hbus _).upholds

/-- The part held in reset. -/
theorem holdInReset_upholds : s.Upholds (holdInReset s) := .of_reset s rfl

/-- The first levels of the lines are no part of the conditions. -/
theorem firstLevels_servicePart (levels : Word) : (s.firstLevels levels).servicePart = s.servicePart := by
  simp only [State.servicePart, State.firstLevels]

/-- DEVICE RESET. -/
theorem deviceReset_upholds (levels : Word) : s.Upholds (deviceReset levels s) :=
  .of_reset s (firstLevels_servicePart (resetBlocks s) levels)

/-- RESET_RECOVERY_END. -/
theorem execResetRecoveryEnd_upholds (c : RecoveryPhase) : s.UpholdsBy (execResetRecoveryEnd c s) := by
  have hbegin : s.Serves (beginRecovery s) := .of_part rfl
  have hend (levels : Word) : s.Serves (endRecovery levels s) :=
    .of_part (firstLevels_servicePart { s with mode := .running, bus := s.bus.passOn } levels)
  unfold execResetRecoveryEnd
  split
  · exact upholdsBy_next hbegin.upholds
  · exact upholdsBy_next (hend _).upholds
  · exact upholdsBy_same

end Arrivals

/-! ## Commits, by the field selected -/

section Commits

variable (c : CyclePhase) (w : Word) (s : State)

/-- PERIOD_CODE_WRITE. -/
theorem execPeriodCodeWrite_upholds : s.UpholdsBy (execPeriodCodeWrite c w s) :=
  upholdsBy_tableWrite fun _ f hf => by
    split at hf <;> cases hf
    exact fun v u => (writePeriodCode_serves u v).upholds

/-- EPOCH_WRITE. -/
theorem execEpochWrite_upholds : s.UpholdsBy (execEpochWrite c w s) :=
  upholdsBy_tableWrite fun _ f hf => by
    split at hf <;> cases hf
    exact fun v u => (writeEpoch_serves u v).upholds

/-- LINE_FIELD_WRITE. -/
theorem execLineFieldWrite_upholds : s.UpholdsBy (execLineFieldWrite c w s) :=
  upholdsBy_tableWrite fun _ f hf => by
    split at hf <;> cases hf
    exact fun v u => (writeLine_serves u _ _ v).upholds

/-- RECEIVER_ENABLED_WRITE. -/
theorem execReceiverEnabledWrite_upholds : s.UpholdsBy (execReceiverEnabledWrite c w s) :=
  upholdsBy_tableWrite fun _ f hf => by
    split at hf <;> cases hf
    exact fun v u => (writeReceiver_serves u _ v).upholds

/-- AGENT_ENABLED_WRITE. -/
theorem execAgentEnabledWrite_upholds : s.UpholdsBy (execAgentEnabledWrite c w s) :=
  upholdsBy_tableWrite fun _ f hf => by
    split at hf <;> cases hf
    exact fun v u => (writeAgentEnabled_serves u _ v).upholds

/-- SILENCE_LIMIT_WRITE. -/
theorem execSilenceLimitWrite_upholds : s.UpholdsBy (execSilenceLimitWrite c w s) :=
  upholdsBy_tableWrite fun _ f hf => by
    split at hf <;> cases hf
    exact fun v u => (writeSilenceLimit_serves u _ v).upholds

/-- COUNTER_FIELD_WRITE. -/
theorem execCounterFieldWrite_upholds : s.UpholdsBy (execCounterFieldWrite c w s) :=
  upholdsBy_tableWrite fun _ f hf => by
    split at hf
    · split at hf <;> cases hf
      exact fun v u => (writeCounter_serves _ _ v).upholds
    · cases hf

/-- COUNTER_GROUP_WRITE. -/
theorem execCounterGroupWrite_upholds : s.UpholdsBy (execCounterGroupWrite c w s) :=
  upholdsBy_tableWrite fun _ f hf => by
    split at hf <;> cases hf
    exact fun v u => writeMembership_upholds _ v u

/-- VALUE_PRESET_WRITE. -/
theorem execValuePresetWrite_upholds : s.UpholdsBy (execValuePresetWrite c w s) :=
  upholdsBy_tableWrite fun _ f hf => by
    split at hf <;> cases hf
    · exact fun v u => Serves.upholds (writeContents_serves _ v fun _ _ => rfl)
    · exact fun v u => Serves.upholds (writeContents_serves _ v fun _ _ => rfl)

/-- GROUP_FIELD_WRITE. -/
theorem execGroupFieldWrite_upholds : s.UpholdsBy (execGroupFieldWrite c w s) :=
  upholdsBy_tableWrite fun _ f hf => by
    split at hf <;> cases hf
    exact fun v u => (writeGroup_serves _ _ v).upholds

/-- READ_ONLY_TABLE_WRITE. -/
theorem execReadOnlyTableWrite_upholds : s.UpholdsBy (execReadOnlyTableWrite c w s) :=
  upholdsBy_tableWrite fun _ f hf => by
    split at hf <;> cases hf <;> exact fun _ u => .refl u

/-- TABLE_COMMIT_RANGE. -/
theorem execTableCommitRange_upholds : s.UpholdsBy (execTableCommitRange c w s) :=
  upholdsBy_tableWrite fun _ f hf => by
    split at hf <;> cases hf
    exact fun _ u => .refl u

/-- READONLY_FIELD_WRITE. -/
theorem execReadonlyFieldWrite_upholds : s.UpholdsBy (execReadonlyFieldWrite c w s) :=
  upholdsBy_tableWrite fun _ f hf => by
    split at hf
    · split at hf <;> cases hf
      exact fun _ u => .refl u
    · cases hf
      exact fun _ u => .refl u
    · cases hf

end Commits

/-! ## Every command -/

/-- Every command upholds the conditions. -/
theorem exec_upholds (i : Instr) (s : State) : s.UpholdsBy (exec i s) := by
  cases i with
  | intervalExpiry => exact execIntervalExpiry_upholds s
  | timebaseStart c op => exact upholdsBy_command timebaseStart_serves
  | timebaseStop c op => exact upholdsBy_command timebaseStop_serves
  | periodCodeWrite c w => exact execPeriodCodeWrite_upholds c w s
  | epochWrite c w => exact execEpochWrite_upholds c w s
  | lineChange n => exact upholdsBy_event (changeLine_serves s n)
  | lineFieldWrite c w => exact execLineFieldWrite_upholds c w s
  | frameComplete bit =>
    rw [exec, execFrameComplete]
    exact upholdsBy_eventIf (takeBit_serves s bit)
  | quietTimeExpiry => exact upholdsBy_event (expireQuiet_serves s)
  | receiverTick => exact execReceiverTick_upholds s
  | agentLost a =>
    rw [exec, execAgentLost]
    exact upholdsBy_eventIf (receiverTick_serves s)
  | receiverEnabledWrite c w => exact execReceiverEnabledWrite_upholds c w s
  | agentEnabledWrite c w => exact execAgentEnabledWrite_upholds c w s
  | silenceLimitWrite c w => exact execSilenceLimitWrite_upholds c w s
  | linkRestart c op => exact upholdsBy_command linkRestart_serves
  | linkClearCounts c op => exact upholdsBy_command linkClearCounts_serves
  | sourceEvent path => exact execSourceEvent_upholds s path
  | engineTick => exact execEngineTick_upholds s
  | periodicCause g =>
    rw [exec, execPeriodicCause]
    exact upholdsBy_eventIf (engineTick_serves s)
  | overflowEvent => exact execOverflowEvent_upholds s
  | placedEvent => exact execPlacedEvent_upholds s
  | agentDown => exact execAgentDown_upholds s
  | groupStart c g => exact upholdsBy_groupCommand (groupStart_serves g)
  | groupHold c g => exact upholdsBy_groupCommand (groupHold_serves g)
  | groupResume c g => exact upholdsBy_groupCommand (groupResume_serves g)
  | groupStop c g => exact upholdsBy_groupCommand (groupStop_serves g)
  | groupCapture c g => exact upholdsBy_groupCommand (groupCapture_serves g)
  | groupClear c g => exact upholdsBy_groupCommand (groupClear_serves g)
  | groupReload c g => exact upholdsBy_groupCommand (groupReload_serves g)
  | countingReset c op => exact upholdsBy_command countingReset_serves
  | chainRequest => exact execChainRequest_upholds s
  | answerTaken =>
    rw [exec, execTaken]
    exact upholdsBy_answerArrives fun g u => (clearOutstanding_serves g u).trans (.of_part rfl)
  | answerWaiting => exact upholdsBy_answerArrives stall_serves
  | answerRefused => exact upholdsBy_answerArrives clearOutstanding_serves
  | answerPlaced =>
    rw [exec, execPlaced]
    exact upholdsBy_answerArrives fun g u =>
      ((clearOutstanding_serves g u).trans (unstall_serves g _)).trans (.of_part rfl)
  | answerAbandoned => exact upholdsBy_answerArrives clearOutstanding_serves
  | counterFieldWrite c w => exact execCounterFieldWrite_upholds c w s
  | counterGroupWrite c w => exact execCounterGroupWrite_upholds c w s
  | valuePresetWrite c w => exact execValuePresetWrite_upholds c w s
  | groupFieldWrite c w => exact execGroupFieldWrite_upholds c w s
  | draft => exact execDraft_upholds s
  | withdraw => exact execWithdraw_upholds s
  | queueRelease c op => exact upholdsBy_command queueRelease_serves
  | queueFlush c op => exact upholdsBy_command queueFlush_serves
  | watermarkWrite c w =>
    rw [exec, execWatermarkWrite]
    exact upholdsBy_access fun u => (writeWatermark_serves w u).trans (.of_part rfl)
  | errorReport r => exact execErrorReport_upholds s r
  | statusEvent r => exact execStatusEvent_upholds s r
  | irqstatWrite c w =>
    rw [exec, execIrqstatWrite]
    exact upholdsBy_access fun _ => .of_part rfl
  | irqenWrite c w =>
    rw [exec, execIrqenWrite]
    exact upholdsBy_access fun _ => .of_part rfl
  | tableFetch c offset =>
    rw [exec, execTableFetch]
    exact upholdsBy_access fun u => readWindow_serves u offset
  | readOnlyTableWrite c w => exact execReadOnlyTableWrite_upholds c w s
  | unknownCommand c w =>
    rw [exec, execUnknownCommand]
    exact upholdsBy_access fun _ => .of_part rfl
  | registerWrite c offset w =>
    rw [exec, execRegisterWrite]
    exact upholdsBy_access fun _ => .of_part rfl
  | bothStrobesLow =>
    rw [exec, execBothStrobesLow]
    exact upholdsBy_event (.of_part rfl)
  | busCycleEnd csHigh => exact execBusCycleEnd_upholds s csHigh
  | heldCyclePassedOn =>
    rw [exec, execHeldCyclePassedOn]
    exact upholdsBy_event (.of_part rfl)
  | deviceReset c op levels =>
    rw [exec, execDeviceReset]
    exact upholdsBy_hostAccess fun u => deviceReset_upholds u levels
  | resetnAsserted => exact upholdsBy_next (holdInReset_upholds s)
  | resetRecoveryEnd c => exact execResetRecoveryEnd_upholds s c
  | powerUp => exact upholdsBy_next (holdInReset_upholds s)
  | tclkRisingEdge bit => exact upholdsBy_event (takeBit_serves s bit)
  | tableCommitRange c w => exact execTableCommitRange_upholds c w s
  | groupOperandRange c w =>
    rw [exec, execGroupOperandRange]
    exact upholdsBy_access fun _ => .of_part rfl
  | readonlyFieldWrite c w => exact execReadonlyFieldWrite_upholds c w s

/-- Every step upholds the conditions. -/
theorem step_upholds {s t : State} (h : step s = .next t) : s.Upholds t := by
  obtain rfl | ⟨c, rest, -, h⟩ := step_cases h
  · exact .refl _
  · exact (exec_upholds c { s with pending := rest } t h).congr rfl rfl

/-- Settles O55: every step keeps the bounds of the store, and of the members and entries that come to it. -/
theorem storeSoundIsKept : Obligations.StoreSoundIsKept := fun _ _ hs h => (step_upholds h).store hs

/-- Settles O60: every step keeps the countdowns, and moves no counter out of or into a group in service. -/
theorem serviceConditionsAreKept : Obligations.ServiceConditionsAreKept :=
  ⟨fun _ _ hs h => (step_upholds h).countdowns hs, fun _ _ g h => (step_upholds h).members g⟩

end Sys2Proof.Machine
end

section
/-! COUNTING RESET and AGENT_DOWN at every record (R40, R49, R81, R82, R101). -/

namespace Sys2Proof.Machine

/-! ## AGENT_DOWN (R49) -/

/-- The counters that an agent feeds, as the statements say it (R49). -/
theorem Counter.fedBy_iff {c : Counter} {a : Fin 8} : c.fedBy a = true ↔ ∃ ch : Fin 4, c.source = .channel a ch := by
  cases h : c.source <;> simp [Counter.fedBy, h]

/-- The counter records after the notice. -/
theorem markStale_counter (a : Fin 8) (s : State) (k : Fin 32) : (markStale a s).counter k =
    if ∃ ch : Fin 4, (s.counter k).source = .channel a ch then { s.counter k with stale := true } else s.counter k := by
  rw [markStale, State.mapCounters_counter]
  exact if_congr Counter.fedBy_iff rfl rfl

/-- AGENT_DOWN takes the notice at the front of its path off it and to the counters. -/
theorem agentDown_arrives {a : Fin 8} {rest : List LinkMessage} {s : State} (hm : s.mode = .running)
    (h : s.paths.linkToEngine = .agentDown a :: rest) :
    exec .agentDown s = .next (markStale a { s with paths := { s.paths with linkToEngine := rest } }) := by
  simp only [exec, execAgentDown, h, event_running hm]

/-- Settles O20: the arrival of the notice, and the records it leaves. -/
theorem agentDownMarksStale : Obligations.AgentDownMarksStale := fun a _ _ hm hpath =>
  ⟨_, agentDown_arrives hm hpath, rfl, markStale_counter a _⟩

/-! ## COUNTING RESET (R40, R81, R82) -/

/-- The WITHDRAWs of a list of groups leave in the order of the list, one for each outstanding draft (R82, R101). -/
theorem foldl_withdrawIfOutstanding (gs : List (Fin 8)) (s : State) :
    gs.foldl (fun u g => withdrawIfOutstanding g u) s = { s with paths := { s.paths with
      draftPath := s.paths.draftPath ++ (gs.filter fun g => (s.group g).outstanding).map .withdraw } } := by
  induction gs generalizing s with
  | nil => simp
  | cons g gs ih =>
    have hgroup (h : Fin 8) : (withdrawIfOutstanding g s).group h = s.group h := by
      rw [withdrawIfOutstanding_eq]
      rfl
    rw [List.foldl_cons, ih]
    simp only [hgroup]
    rw [withdrawIfOutstanding_eq]
    cases ho : (s.group g).outstanding <;> simp [ho]

/-- The state after COUNTING RESET. -/
def State.countingWasReset (s : State) : State :=
  { s with
    counters := Vector.ofFn fun k => s.counters[k].countingReset
    groups := Vector.ofFn fun g => s.groups[g].countingReset
    paths := { s.paths with
      draftPath := s.paths.draftPath ++ (groupIds.filter fun g => (s.group g).outstanding).map .withdraw } }

/-- COUNTING RESET is always accepted. -/
theorem countingReset_eq (s : State) : countingReset s = (s.countingWasReset, .ok) := by
  rw [countingReset, foldl_withdrawIfOutstanding]
  rfl

/-- COUNTING RESET looks neither at the Host Port nor at the bus. -/
theorem countingWasReset_withHost (s : State) (h : HostPort) (b : Bus) :
    State.countingWasReset { s with host := h, bus := b } = { s.countingWasReset with host := h, bus := b } := by
  simp only [State.countingWasReset, State.group]

/-- The group records after COUNTING RESET (R82). -/
theorem countingWasReset_group (s : State) (g : Fin 8) : s.countingWasReset.group g = (s.group g).countingReset := by
  simp [State.group, State.countingWasReset]

/-- The counter records after COUNTING RESET (R40). -/
theorem countingWasReset_counter (s : State) (k : Fin 32) : s.countingWasReset.counter k = (s.counter k).countingReset := by
  simp [State.counter, State.countingWasReset]

/-- COUNTING_RESET is the owner's answer to the command. -/
theorem countingReset_answers {s t : State} {c : CyclePhase} {op : BitVec 8} {r : ResultCode}
    (h : s.takes c (.write 0x04 (cmdWord 0x40 op)) = true) (j : JudgedAs countingReset s t r) :
    exec (.countingReset c op) s = .next (t.answered c r) := command_answers h j

/-- Settles O34: the owner's answer, and the records and the path that it leaves. -/
theorem countingResetEverywhere : Obligations.CountingResetEverywhere := by
  intro c op s ht
  have hjudged : JudgedAs countingReset s s.countingWasReset .ok :=
    { host := by simp only [State.countingWasReset]
      bus := by simp only [State.countingWasReset]
      judges := fun h b => by rw [countingReset_eq, countingWasReset_withHost] }
  refine ⟨s.countingWasReset, countingReset_answers ht hjudged, ?_, ?_, fun g => ?_, fun k => ?_⟩
  · simp only [State.countingWasReset]
  · simp only [State.countingWasReset]
  · exact countingWasReset_group s g
  · exact countingWasReset_counter s k

end Sys2Proof.Machine
end

section
/-! One source event at one counter: the increment of each mode, and what each position makes of it (R41 to R45, R48). -/

namespace Sys2Proof.Machine

variable {c : Counter} {x : Amount}

/-- The band, as the statements say it (R42). -/
theorem Counter.inBand_eq (c : Counter) (x : Amount) :
    c.inBand x = decide (c.bandLow.toNat ≤ x.toNat ∧ x.toNat ≤ c.bandHigh.toNat) := by
  rw [Counter.inBand, ← Bool.decide_and]
  rfl

/-- The test changes inside in ENTER_BAND alone (R43). -/
theorem Counter.tested_eq (c : Counter) (x : Amount) :
    c.tested x = { c with inside := if c.mode = .enterBand then c.inBand x else c.inside } := by
  unfold Counter.tested
  split <;> rename_i hm
  · rw [if_pos hm]
  · rw [if_neg hm]

/-- The test leaves the value and wrapped alone. -/
theorem Counter.tested_counts (c : Counter) (x : Amount) : (c.tested x).value = c.value ∧ (c.tested x).wrapped = c.wrapped := by
  rw [Counter.tested_eq]
  exact ⟨rfl, rfl⟩

/-- An increment is the amount in SUM, and 1 in the other modes (R42). -/
theorem Counter.increment_cases {i : Nat} (h : c.increment x = some i) : i = x.toNat ∧ x.toNat ≠ 0 ∨ i = 1 := by
  unfold Counter.increment at h
  split at h <;> split at h <;> cases h
  · rename_i hx
    exact .inl ⟨rfl, fun e => hx (BitVec.eq_of_toNat_eq e)⟩
  · exact .inr rfl
  · exact .inr rfl
  · exact .inr rfl

/-- An increment is from 1 to 4095 (R15, R42). -/
theorem Counter.increment_bounds {i : Nat} (h : c.increment x = some i) : 1 ≤ i ∧ i ≤ 4095 := by
  have hx := x.isLt
  obtain ⟨rfl, hne⟩ | rfl := Counter.increment_cases h
  · omega
  · decide

/-- A counting counter that the event qualifies for adds its increment (R45). -/
theorem Counter.take_counting {i : Nat} (h : c.increment x = some i) : c.take .counting x = (c.tested x).add i := by
  simp only [Counter.take, h]

/-- A counting counter that the event does not qualify for makes its test alone (R41, R43). -/
theorem Counter.take_unqualified (h : c.increment x = none) : c.take .counting x = c.tested x := by
  simp only [Counter.take, h]

/-- A counting counter wraps where its increment passes the largest value (R45). -/
theorem Counter.wraps_counting {i : Nat} (h : c.increment x = some i) : c.wraps .counting x = c.passes i := by
  simp only [Counter.wraps, h, Option.any_some]

/-- An increment added, as a sum of 40-bit numbers (R45, R48). -/
theorem Counter.add_eq (c : Counter) (i : Nat) :
    c.add i = { c with value := c.value + BitVec.ofNat 40 i, wrapped := c.wrapped || c.passes i } := by
  have hsum : BitVec.ofNat 40 (c.value.toNat + i) = c.value + BitVec.ofNat 40 i := by
    rw [BitVec.ofNat_add, BitVec.ofNat_toNat, BitVec.setWidth_eq]
  rw [Counter.add, hsum]

/-- The value of an increment added, as a number: short of the largest value the sum, and past it the remainder (R45). -/
theorem Counter.add_value (c : Counter) {i : Nat} (hi : i ≤ 4095) : (c.add i).value.toNat =
    if 2 ^ 40 - 1 < c.value.toNat + i then c.value.toNat + i - 2 ^ 40 else c.value.toNat + i := by
  have hc := c.value.isLt
  rw [Counter.add, BitVec.toNat_ofNat]
  split <;> omega

/-- Settles O22: the modes, and the positions with the increment short of the largest value and past it. -/
theorem counterTakesEvent : Obligations.CounterTakesEvent := by
  intro c x band tested
  have hband : c.inBand x = band := c.inBand_eq x
  have htested : c.tested x = tested := by
    rw [Counter.tested_eq, hband]
  refine ⟨fun hm => ?sum, fun hm => ?inBand, fun hm => ?outBand, fun hm => ?enterBand, rfl, htested,
    fun h => ⟨(Counter.take_unqualified h).trans htested, by simp only [Counter.wraps, h, Option.any_none]⟩,
    fun i h => ?counts⟩
  case sum =>
    simp only [Counter.increment, hm]
    exact if_congr ⟨fun e => e ▸ rfl, fun e => BitVec.eq_of_toNat_eq e⟩ rfl rfl
  case inBand => simp only [Counter.increment, hm, hband]
  case outBand => simp only [Counter.increment, hm, hband]
  case enterBand => simp only [Counter.increment, hm, hband, Bool.and_eq_true, Bool.not_eq_true']
  case counts =>
    obtain ⟨hlow, hhigh⟩ := Counter.increment_bounds h
    obtain ⟨hvalue, hwrapped⟩ := c.tested_counts x
    have htake : c.take .counting x = tested.add i := (Counter.take_counting h).trans (by rw [htested])
    rw [htested] at hvalue hwrapped
    have hsum := tested.add_value hhigh
    rw [hvalue] at hsum
    rw [Counter.wraps_counting h, htake]
    refine ⟨hlow, hhigh, fun hshort => ?_, fun hpast => ?_⟩
    · have hpasses : c.passes i = false := decide_eq_false (Nat.not_lt.mpr hshort)
      refine ⟨hpasses, ?_, hsum.trans (if_neg (Nat.not_lt.mpr hshort))⟩
      have htpasses : tested.passes i = false := hpasses
      rw [Counter.add_eq, htpasses, Bool.or_false]
    · have hpasses : c.passes i = true := decide_eq_true hpast
      have hc := c.value.isLt
      rw [if_pos hpast] at hsum
      refine ⟨hpasses, ?_, hsum, by omega⟩
      have htpasses : tested.passes i = true := hpasses
      rw [Counter.add_eq, htpasses, Bool.or_true]

end Sys2Proof.Machine
end

section
/-! SUPPORT. Causes that reach the groups one after another (R59, R75): each group's record before its cause, and whether it takes
or misses the cause, are fixed beforehand, since no group's capture touches another group, its members or their flags. What such
a round leaves, said once for the overflow causes of a source event and for the periodic causes of a tick. -/

namespace Sys2Proof.Machine

/-- Each group stands in the list of groups once. -/
theorem groupIds_nodup : groupIds.Nodup := List.nodup_finRange 8

/-- Every group stands in the list of groups. -/
theorem mem_groupIds (g : Fin 8) : g ∈ groupIds := List.mem_finRange g

/-- For each group of a round: its record when the cause comes, whether it takes or misses the cause, and the cause. -/
structure Round where
  record : Fin 8 → Group
  takes : Fin 8 → Bool
  misses : Fin 8 → Bool
  cause : Fin 8 → CaptureCause

namespace Round

/-- The record of group Gg as its cause finds it. -/
def before (R : Round) (s : State) (g : Fin 8) : State := s.modifyGroup g fun _ => R.record g

/-- A round at one group. -/
def step (R : Round) (s : State) (g : Fin 8) : State :=
  if R.takes g then takeCapture g (R.cause g) (R.before s g)
  else if R.misses g then missCapture g (R.before s g)
  else R.before s g

/-- The record that a round leaves of group Gg. -/
def after (R : Round) (g : Fin 8) : Group :=
  if R.takes g then (R.record g).afterCapture
  else if R.misses g then { R.record g with missed := satInc (R.record g).missed }
  else R.record g

/-- A round that begins at `s`: every capture starts a chain where it has a chain next, no cause is both taken and missed, and
the records differ from those of `s` in nothing that a draft or a chain looks at. -/
structure Fits (R : Round) (s : State) : Prop where
  starts : ∀ g : Fin 8, (R.cause g).startsChain = true
  apart : ∀ g : Fin 8, R.takes g = true → R.misses g = false
  chainNext : ∀ g : Fin 8, (R.record g).chainNext = (s.group g).chainNext
  policy : ∀ g : Fin 8, (R.record g).policy = (s.group g).policy

/-! ## One group -/

section Step

variable (R : Round) (s : State) (g : Fin 8)

/-- The group records before the cause. -/
theorem before_group (h : Fin 8) : (R.before s g).group h = if h = g then R.record g else s.group h :=
  State.modifyGroup_group s g h fun _ => R.record g

/-- The group records after it. -/
theorem step_group (h : Fin 8) : (R.step s g).group h = if h = g then R.after g else s.group h := by
  have hsame : (R.before s g).group g = R.record g := (R.before_group s g g).trans (if_pos rfl)
  unfold step after
  split
  · rw [takeCapture_group, hsame, before_group]
    split <;> rfl
  · split
    · rw [missCapture_group, hsame, before_group]
      split <;> rfl
    · exact R.before_group s g h

/-- The counters after it: the members of a group that captures are captured (R92). -/
theorem step_counter (k : Fin 32) : (R.step s g).counter k =
    if R.takes g = true ∧ (s.counter k).group = some g then (s.counter k).captured (R.record g).reloadAfter
    else s.counter k := by
  have hsame : (R.before s g).group g = R.record g := (R.before_group s g g).trans (if_pos rfl)
  unfold step
  split <;> rename_i ht
  · rw [takeCapture_counter, hsame]
    simp only [ht, true_and]
    rfl
  · simp only [ht]
    split <;> rfl

/-- The tag counter after it (R111). -/
theorem step_chainTag (hc : (R.cause g).startsChain = true) : (R.step s g).chainTag =
    if R.takes g = true ∧ (R.record g).chainNext.isSome = true then s.chainTag + 1 else s.chainTag := by
  have hsame : (R.before s g).group g = R.record g := (R.before_group s g g).trans (if_pos rfl)
  unfold step
  split <;> rename_i ht
  · rw [takeCapture_chainTag, hsame, hc, Bool.and_true]
    simp only [ht, true_and]
    rfl
  · simp only [ht]
    split <;> rfl

/-- The draft path after it (R91). -/
theorem step_draftPath : (R.step s g).paths.draftPath = s.paths.draftPath ++
    if R.takes g then [.draft ((R.before s g).draftOf g (R.cause g))] else [] := by
  unfold step
  split
  · exact takeCapture_draftPath g (R.cause g) (R.before s g)
  · rw [List.append_nil]
    split <;> rfl

/-- The chain requests after it (R112). -/
theorem step_chainRequests (hc : (R.cause g).startsChain = true) : (R.step s g).paths.chainRequests =
    s.paths.chainRequests ++
      if R.takes g then ((R.record g).chainNext.map fun n => ⟨g, s.chainTag, [g], 1, n⟩).toList else [] := by
  have hsame : (R.before s g).group g = R.record g := (R.before_group s g g).trans (if_pos rfl)
  unfold step
  split
  · cases hnext : (R.record g).chainNext with
    | none =>
      rw [takeCapture_paths_end (hsame ▸ hnext)]
      exact (List.append_nil _).symm
    | some n =>
      rw [takeCapture_paths_starts (hsame ▸ hnext) hc]
      rfl
  · rw [List.append_nil]
    split <;> rfl

/-- The reports after it (R99): a capture that starts a chain, or none, sends none. -/
theorem step_fromEngine (hc : (R.cause g).startsChain = true) (ha : R.takes g = true → R.misses g = false) :
    (R.step s g).paths.fromEngine = s.paths.fromEngine ++ if R.misses g then [.error .missed (some g)] else [] := by
  have hsame : (R.before s g).group g = R.record g := (R.before_group s g g).trans (if_pos rfl)
  unfold step
  split <;> rename_i ht
  · rw [ha ht, if_neg Bool.false_ne_true, List.append_nil]
    cases hnext : (R.record g).chainNext with
    | none =>
      rw [takeCapture_paths_end (hsame ▸ hnext)]
      rfl
    | some n =>
      rw [takeCapture_paths_starts (hsame ▸ hnext) hc]
      rfl
  · split
    · rfl
    · exact (List.append_nil _).symm

/-- What it leaves alone. -/
theorem step_frame : R.step s g = { s with
    counters := (R.step s g).counters, groups := (R.step s g).groups, chainTag := (R.step s g).chainTag
    paths := { s.paths with
      draftPath := (R.step s g).paths.draftPath, chainRequests := (R.step s g).paths.chainRequests
      fromEngine := (R.step s g).paths.fromEngine } } := by
  unfold step
  split
  · rw [takeCapture_frame]
    rfl
  · split <;> rfl

end Step

/-! ## The groups of a list, one after another -/

/-- A round at the groups of a list. -/
def run (R : Round) (gs : List (Fin 8)) (s : State) : State := gs.foldl R.step s

/-- The last group of a list comes last. -/
theorem run_concat (R : Round) (gs : List (Fin 8)) (g : Fin 8) (s : State) :
    R.run (gs ++ [g]) s = R.step (R.run gs s) g := by
  rw [run, List.foldl_append]
  rfl

section Run

variable (R : Round) (s : State)

/-- The group records after a round. -/
theorem run_group (gs : List (Fin 8)) (h : Fin 8) : (R.run gs s).group h = if h ∈ gs then R.after h else s.group h := by
  induction gs using List.reverseRecOn with
  | nil => rfl
  | append_singleton gs g ih =>
    rw [run_concat, step_group, ih]
    by_cases hg : h = g
    · subst hg
      simp
    · simp [hg]

/-- No counter moves to another group. -/
theorem run_membership (gs : List (Fin 8)) (k : Fin 32) :
    ((R.run gs s).counter k).membership = (s.counter k).membership := by
  refine foldl_frame (fun t : State => (t.counter k).membership) R.step (fun t g => ?_) gs s
  rw [step_counter]
  split <;> rfl

/-- The group field of a counter after a round. -/
theorem run_counter_group (gs : List (Fin 8)) (k : Fin 32) : ((R.run gs s).counter k).group = (s.counter k).group :=
  congrArg Prod.fst (R.run_membership s gs k)

/-- The member lists after a round. -/
theorem run_members (gs : List (Fin 8)) (g : Fin 8) : (R.run gs s).members g = s.members g :=
  State.members_of_membership (R.run_counter_group s gs) g

/-- A counter of no group that captures is left as it is. -/
theorem run_counter_other {gs : List (Fin 8)} {k : Fin 32}
    (h : ∀ g : Fin 8, (s.counter k).group = some g → g ∈ gs → R.takes g = false) : (R.run gs s).counter k = s.counter k := by
  induction gs using List.reverseRecOn with
  | nil => rfl
  | append_singleton gs g ih =>
    have hgs := ih fun h' hk hmem => h h' hk (List.mem_append_left [g] hmem)
    rw [run_concat, step_counter, hgs, if_neg]
    rintro ⟨ht, hk⟩
    exact Bool.false_ne_true ((h g hk (by simp)).symm.trans ht)

/-- A member of a group that captures is captured (R92). -/
theorem run_counter_member {gs : List (Fin 8)} {g : Fin 8} {k : Fin 32} (hgs : gs.Nodup) (hg : g ∈ gs)
    (hk : (s.counter k).group = some g) (ht : R.takes g = true) :
    (R.run gs s).counter k = (s.counter k).captured (R.record g).reloadAfter := by
  induction gs using List.reverseRecOn with
  | nil => cases hg
  | append_singleton gs h ih =>
    obtain ⟨hnodup, -, hnot⟩ := List.nodup_append'.mp hgs
    have hkg := R.run_counter_group s gs k
    rw [run_concat, step_counter, hkg, hk]
    by_cases hh : g = h
    · subst hh
      have hout : g ∉ gs := fun hmem => hnot hmem List.mem_cons_self
      have hsame : (R.run gs s).counter k = s.counter k := by
        refine R.run_counter_other s fun j hj hmem => ?_
        rw [hk] at hj
        cases hj
        exact absurd hmem hout
      rw [if_pos ⟨ht, rfl⟩, hsame]
    · have hmem : g ∈ gs := (List.mem_append.mp hg).resolve_right fun hx => hh (List.mem_singleton.mp hx)
      rw [if_neg fun hx => hh (Option.some.inj hx.2), ih hnodup hmem]

/-- The counter records after a round at every group (R92). -/
theorem run_groupIds_counter (k : Fin 32) : (R.run groupIds s).counter k =
    if (s.counter k).group.any R.takes then
      (s.counter k).captured ((s.counter k).group.any fun g => (R.record g).reloadAfter)
    else s.counter k := by
  cases hk : (s.counter k).group with
  | none => exact R.run_counter_other s fun g hg => by rw [hk] at hg; cases hg
  | some g =>
    simp only [Option.any_some]
    cases ht : R.takes g with
    | true => exact R.run_counter_member s groupIds_nodup (mem_groupIds g) hk ht
    | false =>
      refine R.run_counter_other s fun h hh _ => ?_
      rw [hk] at hh
      cases hh
      exact ht

variable {R s} (hR : R.Fits s)
include hR

omit hR in
/-- The groups of two lists that start a chain. -/
theorem chainStarters_append (gs later : List (Fin 8)) :
    s.chainStarters (gs ++ later) = s.chainStarters gs ++ s.chainStarters later := List.filter_append ..

/-- The tag counter after a round: one more for each chain started (R111). -/
theorem run_chainTag (gs : List (Fin 8)) : (R.run gs s).chainTag =
    s.chainTag + BitVec.ofNat 8 (s.chainStarters (gs.filter R.takes)).length := by
  induction gs using List.reverseRecOn with
  | nil => exact (BitVec.add_zero _).symm
  | append_singleton gs g ih =>
    rw [run_concat, step_chainTag R _ g (hR.starts g), ih, hR.chainNext g, List.filter_append, chainStarters_append,
      List.length_append, BitVec.ofNat_add, ← BitVec.add_assoc]
    cases ht : R.takes g with
    | false => simp [ht, State.chainStarters]
    | true => cases hnext : (s.group g).chainNext.isSome <;> simp [ht, hnext, State.chainStarters]

/-- The tag that group Gg draws when it comes last. -/
theorem run_chainTag_eq_tagDrawnBy {gs : List (Fin 8)} {g : Fin 8} (hg : g ∉ gs) (hnext : (s.group g).chainNext.isSome = true) :
    (R.run gs s).chainTag = s.tagDrawnBy (gs.filter R.takes ++ [g]) g := by
  have hout : g ∉ s.chainStarters (gs.filter R.takes) := fun hmem =>
    hg (List.mem_of_mem_filter (List.mem_of_mem_filter hmem))
  have hlast : s.chainStarters [g] = [g] := by simp [State.chainStarters, hnext]
  rw [run_chainTag hR, State.tagDrawnBy, chainStarters_append, hlast, List.idxOf_append_of_notMem hout]
  simp

omit hR in
/-- The tag that an earlier group drew does not depend on those behind it. -/
theorem tagDrawnBy_append {gs later : List (Fin 8)} {g : Fin 8} (hg : g ∈ gs) (hnext : (s.group g).chainNext.isSome = true) :
    s.tagDrawnBy (gs ++ later) g = s.tagDrawnBy gs g := by
  have hmem : g ∈ s.chainStarters gs := List.mem_filter.mpr ⟨hg, hnext⟩
  rw [State.tagDrawnBy, chainStarters_append, List.idxOf_append_of_mem hmem]
  rfl

omit hR in
/-- An earlier draft does not depend on the captures behind it. -/
theorem draftAmong_append {gs later : List (Fin 8)} {g : Fin 8} (hg : g ∈ gs) (cause : Cause) (entries : List Entry) :
    s.draftAmong (gs ++ later) g cause entries = s.draftAmong gs g cause entries := by
  cases hnext : (s.group g).chainNext with
  | none => simp only [State.draftAmong, hnext, Option.map_none]
  | some n => simp only [State.draftAmong, tagDrawnBy_append hg (by rw [hnext]; rfl)]

/-- The draft of a group that comes last: it shows its members as they were before the round (R91, R95, R96). -/
theorem draftOf_last {gs : List (Fin 8)} {g : Fin 8} (hg : g ∉ gs) : (R.before (R.run gs s) g).draftOf g (R.cause g) =
    s.draftAmong (gs.filter R.takes ++ [g]) g (R.cause g).shown ((s.members g).map s.entry) := by
  have hrecord : (R.before (R.run gs s) g).group g = R.record g := (R.before_group _ g g).trans (if_pos rfl)
  have hepoch : (R.run gs s).timebase = s.timebase :=
    foldl_frame State.timebase R.step (fun t h => by rw [step_frame]) gs s
  have hmembers : (R.before (R.run gs s) g).members g = s.members g := R.run_members s gs g
  have hentries : (s.members g).map (R.before (R.run gs s) g).entry = (s.members g).map s.entry := by
    refine List.map_congr_left fun k hk => ?_
    have hsame : (R.before (R.run gs s) g).counter k = s.counter k := R.run_counter_other s fun h hh hmem => by
      rw [State.mem_members.mp hk] at hh
      cases hh
      exact absurd hmem hg
    rw [State.entry, State.entry, hsame]
  have htag : (R.before (R.run gs s) g).tagFor g (R.cause g) =
      (s.group g).chainNext.map fun _ => s.tagDrawnBy (gs.filter R.takes ++ [g]) g := by
    rw [State.tagFor_starting g _ _ (hR.starts g), hrecord, hR.chainNext g]
    cases hnext : (s.group g).chainNext with
    | none => rfl
    | some n => exact congrArg some (run_chainTag_eq_tagDrawnBy hR hg (by rw [hnext]; rfl))
  have hpolicy : ((R.before (R.run gs s) g).group g).policy = (s.group g).policy := hrecord ▸ hR.policy g
  have hstamp : (R.before (R.run gs s) g).timebase.epoch = s.timebase.epoch := congrArg Timebase.epoch hepoch
  rw [State.draftOf, State.draftAmong, hmembers, hentries, htag, hpolicy, hstamp]

/-- The draft path after a round: the drafts of the groups that capture, in the order of the list (R89, R91). -/
theorem run_draftPath {gs : List (Fin 8)} (hgs : gs.Nodup) : (R.run gs s).paths.draftPath = s.paths.draftPath ++
    (gs.filter R.takes).map fun g => .draft
      (s.draftAmong (gs.filter R.takes) g (R.cause g).shown ((s.members g).map s.entry)) := by
  induction gs using List.reverseRecOn with
  | nil => exact (List.append_nil _).symm
  | append_singleton gs g ih =>
    obtain ⟨hnodup, -, hnot⟩ := List.nodup_append'.mp hgs
    have hout : g ∉ gs := fun hmem => hnot hmem List.mem_cons_self
    rw [run_concat, step_draftPath, ih hnodup, draftOf_last hR hout, List.filter_append, List.append_assoc]
    refine congrArg _ ?_
    cases ht : R.takes g with
    | false => simp [ht]
    | true =>
      have hlast : [g].filter R.takes = [g] := by simp [ht]
      rw [hlast, List.map_append]
      refine congrArg₂ _ (List.map_congr_left fun h hh => ?_) rfl
      rw [draftAmong_append hh]

/-- The chain requests after a round: the first request of each chain started, in the order of the list (R112). -/
theorem run_chainRequests {gs : List (Fin 8)} (hgs : gs.Nodup) : (R.run gs s).paths.chainRequests =
    s.paths.chainRequests ++ s.firstRequests (gs.filter R.takes) := by
  induction gs using List.reverseRecOn with
  | nil => exact (List.append_nil _).symm
  | append_singleton gs g ih =>
    obtain ⟨hnodup, -, hnot⟩ := List.nodup_append'.mp hgs
    have hout : g ∉ gs := fun hmem => hnot hmem List.mem_cons_self
    rw [run_concat, step_chainRequests R _ g (hR.starts g), ih hnodup, hR.chainNext g, List.filter_append,
      List.append_assoc]
    refine congrArg _ ?_
    cases ht : R.takes g with
    | false => simp [ht]
    | true =>
      have hlast : [g].filter R.takes = [g] := by simp [ht]
      rw [hlast, State.firstRequests, State.firstRequests, List.filterMap_append]
      refine congrArg₂ _ (List.filterMap_congr fun h hh => ?_) ?_
      · cases hnext : (s.group h).chainNext with
        | none => rfl
        | some n => simp only [Option.map_some, tagDrawnBy_append hh (by rw [hnext]; rfl)]
      · cases hnext : (s.group g).chainNext with
        | none => simp [hnext]
        | some n => simp [hnext, run_chainTag_eq_tagDrawnBy hR hout (by rw [hnext]; rfl)]

/-- The reports after a round: one for each group that misses, in the order of the list (R99). -/
theorem run_fromEngine (gs : List (Fin 8)) : (R.run gs s).paths.fromEngine =
    s.paths.fromEngine ++ (gs.filter R.misses).map fun g => .error .missed (some g) := by
  induction gs using List.reverseRecOn with
  | nil => exact (List.append_nil _).symm
  | append_singleton gs g ih =>
    rw [run_concat, step_fromEngine R _ g (hR.starts g) (hR.apart g), ih, List.filter_append, List.map_append,
      List.append_assoc]
    cases hm : R.misses g <;> simp [hm]

omit hR

/-- What a round leaves alone. -/
theorem run_frame (R : Round) (gs : List (Fin 8)) (s : State) : R.run gs s = { s with
    counters := (R.run gs s).counters, groups := (R.run gs s).groups, chainTag := (R.run gs s).chainTag
    paths := { s.paths with
      draftPath := (R.run gs s).paths.draftPath, chainRequests := (R.run gs s).paths.chainRequests
      fromEngine := (R.run gs s).paths.fromEngine } } := by
  induction gs using List.reverseRecOn with
  | nil => rfl
  | append_singleton gs g ih => rw [run_concat, step_frame, ih]

/-- An operation at one group after another that is a step of the round wherever the group and the memberships are as they were
is the round. -/
theorem foldl_eq_run {f : State → Fin 8 → State}
    (hf : ∀ (t : State) (g : Fin 8), t.group g = s.group g →
      (∀ k : Fin 32, (t.counter k).membership = (s.counter k).membership) → f t g = R.step t g)
    {gs : List (Fin 8)} (hgs : gs.Nodup) : gs.foldl f s = R.run gs s := by
  induction gs using List.reverseRecOn with
  | nil => rfl
  | append_singleton gs g ih =>
    obtain ⟨hnodup, -, hnot⟩ := List.nodup_append'.mp hgs
    have hout : g ∉ gs := fun hmem => hnot hmem List.mem_cons_self
    have hgroup : (R.run gs s).group g = s.group g := (R.run_group s gs g).trans (if_neg hout)
    rw [List.foldl_append, ih hnodup, run_concat]
    exact hf _ g hgroup (R.run_membership s gs)

end Run

end Round

end Sys2Proof.Machine
end

section
/-! The statements on one source event: the overflow causes as a round that begins where the counters have taken the event and
the losses are noted (section 3.11). -/

namespace Sys2Proof.Machine

/-! ## One counter at an event -/

/-- An event changes neither the preset of a counter nor its group. -/
theorem Counter.take_keeps (c : Counter) (p : Position) (a : Amount) :
    (c.take p a).preset = c.preset ∧ (c.take p a).group = c.group := by
  have htested : (c.tested a).preset = c.preset ∧ (c.tested a).group = c.group := by
    unfold Counter.tested
    split <;> exact ⟨rfl, rfl⟩
  cases p with
  | idle => exact ⟨rfl, rfl⟩
  | suspended => exact htested
  | counting =>
    unfold Counter.take
    dsimp only
    split <;> exact htested

/-- A counter captured, its preset known (R92). -/
theorem Counter.captured_of_preset {c : Counter} {v : Tally} (h : c.preset = v) (reload : Bool) :
    c.captured reload = { c with wrapped := false, stale := false, value := if reload then v else c.value } := by
  subst h
  rfl

/-- The counter counts: it is an enabled member of a RUNNING group (R41). -/
theorem State.position_counting_iff {s : State} {c : Counter} : s.position c = .counting ↔
    c.enabled = true ∧ ∃ g : Fin 8, c.group = some g ∧ (s.group g).state = .running := by
  unfold State.position
  cases c.enabled with
  | false => simp
  | true =>
    cases c.group with
    | none => simp
    | some g => cases hstate : (s.group g).state <;> simp [GroupState.position, hstate]

/-- The counter is suspended: it is an enabled member of a STALLED group (R41). -/
theorem State.position_suspended_iff {s : State} {c : Counter} : s.position c = .suspended ↔
    c.enabled = true ∧ ∃ g : Fin 8, c.group = some g ∧ (s.group g).state.isStalled = true := by
  unfold State.position
  cases c.enabled with
  | false => simp
  | true =>
    cases c.group with
    | none => simp
    | some g => cases hstate : (s.group g).state <;> simp [GroupState.position, GroupState.isStalled, hstate]

/-- A counter loses an event that qualifies while it is suspended (R77). -/
theorem Counter.loses_iff {c : Counter} {p : Position} {a : Amount} :
    c.loses p a = true ↔ p = .suspended ∧ c.increment a ≠ none := by
  cases p <;> simp [Counter.loses, Counter.qualifies, Option.isSome_iff_ne_none]

/-- Which members of a group lose an event (R77). -/
theorem State.loses_member_iff {s : State} {g : Fin 8} {c : Counter} {a : Amount} (hg : c.group = some g) :
    c.loses (s.position c) a = true ↔
      (s.group g).state.isStalled = true ∧ c.enabled = true ∧ c.increment a ≠ none := by
  rw [Counter.loses_iff, State.position_suspended_iff, hg]
  simp only [Option.some.injEq, exists_eq_left']
  tauto

/-- What a group loses of an event, as a count over all the counters (R77). -/
theorem State.losses_eq (src : Source) (a : Amount) (s : State) (g : Fin 8) : s.losses src a g =
    if (s.group g).state.isStalled = true then
      counterIds.countP fun k => decide ((s.counter k).group = some g ∧ (s.counter k).enabled = true ∧
        (s.counter k).source = src ∧ (s.counter k).increment a ≠ none)
    else 0 := by
  rw [State.losses, State.members, List.countP_filter]
  split <;> rename_i hstalled
  · refine List.countP_congr fun k _ => ?_
    by_cases hg : (s.counter k).group = some g
    · simp only [Bool.and_eq_true, decide_eq_true_eq, Counter.isMember_iff, State.loses_member_iff hg]
      tauto
    · simp [Counter.isMember, hg]
  · refine List.countP_eq_zero.mpr fun k _ => ?_
    rw [Bool.and_eq_true, Bool.and_eq_true, Counter.isMember_iff]
    rintro ⟨⟨-, hloses⟩, hg⟩
    exact hstalled ((State.loses_member_iff hg).mp hloses).1

/-! ## After the first step -/

/-- Noting losses changes the lost increments and the note alone. -/
theorem Group.noteLoss_eq (x : Group) (n : Nat) :
    x.noteLoss n = { x with lost := (x.noteLoss n).lost, stallNoted := (x.noteLoss n).stallNoted } := by
  unfold Group.noteLoss
  split <;> rfl

/-- What noting losses leaves alone. -/
theorem noteLosses_frame (lost : Fin 8 → Nat) (s : State) : noteLosses lost s = { s with
    groups := (noteLosses lost s).groups, freeCount := (noteLosses lost s).freeCount
    paths := { s.paths with fromEngine := (noteLosses lost s).paths.fromEngine } } := by
  obtain ⟨n, h⟩ := noteLosses_eq lost s
  rw [h]
  simp only [State.mapGroups]

section AfterCounting

variable (src : Source) (a : Amount) (s : State)

/-- The counters after the first step. -/
theorem afterCounting_counter (k : Fin 32) : (s.afterCounting src a).counter k =
    if (s.counter k).source = src then (s.counter k).take (s.position (s.counter k)) a else s.counter k := by
  rw [State.afterCounting, noteLosses_counter, countEvent, State.mapCounters_counter]

/-- The entries that a draft would show after the first step. -/
theorem afterCounting_entry (k : Fin 32) : (s.afterCounting src a).entry k = (countEvent src a s).entry k := by
  rw [State.entry, State.entry, State.afterCounting, noteLosses_counter]

/-- The first step moves no counter. -/
theorem afterCounting_members (g : Fin 8) : (s.afterCounting src a).members g = s.members g :=
  State.members_of_membership (fun k => congrArg Prod.fst (afterCounting_membership src a s k)) g

/-- What the first step leaves alone. -/
theorem afterCounting_frame : s.afterCounting src a = { s with
    counters := (s.afterCounting src a).counters, groups := (s.afterCounting src a).groups
    freeCount := (s.afterCounting src a).freeCount
    paths := { s.paths with fromEngine := (s.afterCounting src a).paths.fromEngine } } := by
  have hcounted : countEvent src a s = { s with counters := (countEvent src a s).counters } := by
    simp only [countEvent, State.mapCounters]
  rw [State.afterCounting, noteLosses_frame, hcounted]

/-- The first step sets no chain next. -/
theorem afterCounting_chainNext (g : Fin 8) : ((s.afterCounting src a).group g).chainNext = (s.group g).chainNext := by
  rw [afterCounting_group, Group.noteLoss_eq]

/-- The first step sets no policy. -/
theorem afterCounting_policy (g : Fin 8) : ((s.afterCounting src a).group g).policy = (s.group g).policy := by
  rw [afterCounting_group, Group.noteLoss_eq]

/-- The first step draws no tag. -/
theorem afterCounting_chainTag : (s.afterCounting src a).chainTag = s.chainTag := by rw [afterCounting_frame]

/-- Which captures start a chain does not depend on the first step. -/
theorem afterCounting_chainStarters (gs : List (Fin 8)) : (s.afterCounting src a).chainStarters gs = s.chainStarters gs := by
  simp only [State.chainStarters, afterCounting_chainNext]

/-- Nor do the tags drawn. -/
theorem afterCounting_tagDrawnBy (gs : List (Fin 8)) (g : Fin 8) :
    (s.afterCounting src a).tagDrawnBy gs g = s.tagDrawnBy gs g := by
  simp only [State.tagDrawnBy, afterCounting_chainTag, afterCounting_chainStarters]

/-- Nor do the first requests. -/
theorem afterCounting_firstRequests (gs : List (Fin 8)) :
    (s.afterCounting src a).firstRequests gs = s.firstRequests gs := by
  simp only [State.firstRequests, afterCounting_tagDrawnBy, afterCounting_chainNext]

/-- Nor does a draft, apart from its entries. -/
theorem afterCounting_draftAmong (gs : List (Fin 8)) (g : Fin 8) (cause : Cause) (entries : List Entry) :
    (s.afterCounting src a).draftAmong gs g cause entries = s.draftAmong gs g cause entries := by
  have hepoch : (s.afterCounting src a).timebase = s.timebase := by rw [afterCounting_frame]
  simp only [State.draftAmong, afterCounting_tagDrawnBy, afterCounting_chainNext, afterCounting_policy, hepoch]

end AfterCounting

/-! ## Overflow causes as a round -/

/-- Whether a group takes an overflow cause depends on its state, its draft and its overflow set. -/
theorem State.takesOverflow_congr {s t : State} {w : List (Fin 32)} {g : Fin 8}
    (h : ∀ k : Fin 32, (t.counter k).membership = (s.counter k).membership)
    (hstate : (t.group g).state = (s.group g).state) (hout : (t.group g).outstanding = (s.group g).outstanding) :
    t.takesOverflow w g = s.takesOverflow w g := by
  rw [State.takesOverflow, State.takesOverflow, State.overflowSet_congr h, hstate, hout]

/-- An overflow cause at a group, by whether the group takes it, misses it, or does not get it (R59, R87). -/
theorem overflowCauseAt_eq (w : List (Fin 32)) (s : State) (g : Fin 8) : overflowCauseAt w s g =
    if s.takesOverflow w g then takeCapture g (.overflow (maskOf (s.overflowSet w g))) s
    else if s.missesOverflow w g then missCapture g s
    else s := by
  unfold overflowCauseAt State.takesOverflow State.missesOverflow
  dsimp only
  split <;> rename_i hreach
  · have hrunning : (s.group g).state = .running := by simpa using (Bool.and_eq_true_iff.mp hreach).1
    rw [hreach]
    cases ho : (s.group g).outstanding <;> simp [captureCause, Group.canCapture, hrunning, ho]
  · rw [Bool.eq_false_iff.mpr hreach]
    simp

/-- A group record set to itself. -/
theorem State.modifyGroup_self (s : State) (g : Fin 8) : s.modifyGroup g (fun _ => s.group g) = s := by
  have hgroups : (s.modifyGroup g fun _ => s.group g).groups = s.groups := State.groups_ext fun h => by
    rw [State.modifyGroup_group]
    split <;> rename_i hh
    · rw [hh]
    · rfl
  calc s.modifyGroup g (fun _ => s.group g)
      = { s with groups := (s.modifyGroup g fun _ => s.group g).groups } := rfl
    _ = s := by rw [hgroups]

/-- The overflow causes of an event, after its first step. -/
def overflowRound (src : Source) (a : Amount) (s : State) : Round where
  record g := (s.group g).noteLoss (s.losses src a g)
  takes := s.takesOverflow (s.wrappedBy src a)
  misses := s.missesOverflow (s.wrappedBy src a)
  cause g := .overflow (maskOf (s.overflowSet (s.wrappedBy src a) g))

section OverflowRound

variable (src : Source) (a : Amount) (s : State)

/-- The overflow causes of an event fit the state after its first step. -/
theorem overflowRound_fits : (overflowRound src a s).Fits (s.afterCounting src a) where
  starts _ := rfl
  apart g ht := by
    obtain ⟨-, hout⟩ := Bool.and_eq_true_iff.mp (show s.takesOverflow (s.wrappedBy src a) g = true from ht)
    show s.missesOverflow (s.wrappedBy src a) g = false
    rw [State.missesOverflow, show (s.group g).outstanding = false by simpa using hout, Bool.and_false]
  chainNext g := congrArg Group.chainNext (afterCounting_group src a s g).symm
  policy g := congrArg Group.policy (afterCounting_group src a s g).symm

/-- An overflow cause of the event is the round's step wherever the group and the memberships are as the first step left them. -/
theorem overflowCauseAt_eq_step (t : State) (g : Fin 8) (hgroup : t.group g = (s.afterCounting src a).group g)
    (hmembership : ∀ k : Fin 32, (t.counter k).membership = ((s.afterCounting src a).counter k).membership) :
    overflowCauseAt (s.wrappedBy src a) t g = (overflowRound src a s).step t g := by
  have hmem (k : Fin 32) : (t.counter k).membership = (s.counter k).membership :=
    (hmembership k).trans (afterCounting_membership src a s k)
  have hrecord : t.group g = (overflowRound src a s).record g := hgroup.trans (afterCounting_group src a s g)
  obtain ⟨hstate, hout⟩ := (s.group g).noteLoss_service (s.losses src a g)
  have hstate' : (t.group g).state = (s.group g).state := hrecord ▸ hstate
  have hout' : (t.group g).outstanding = (s.group g).outstanding := hrecord ▸ hout
  have hbefore : (overflowRound src a s).before t g = t := by rw [Round.before, ← hrecord, State.modifyGroup_self]
  rw [overflowCauseAt_eq, Round.step, hbefore, State.takesOverflow_congr hmem hstate' hout',
    State.missesOverflow_congr hmem hstate' hout', State.overflowSet_congr hmem]
  rfl

/-- A source event: its first step, the round of overflow causes, and the OVERFLOW events sent (R58). -/
theorem applySource_eq_run : applySource src a s =
    ((overflowRound src a s).run groupIds (s.afterCounting src a)).sendOverflows (s.wrappedBy src a) := by
  rw [applySource_eq, Round.foldl_eq_run (R := overflowRound src a s) (overflowCauseAt_eq_step src a s)
    groupIds_nodup]

/-- The groups after a source event (R59, R77, R99). -/
theorem applySource_group (g : Fin 8) : (applySource src a s).group g =
    if s.takesOverflow (s.wrappedBy src a) g then ((s.group g).noteLoss (s.losses src a g)).afterCapture
    else if s.missesOverflow (s.wrappedBy src a) g then
      { (s.group g).noteLoss (s.losses src a g) with missed := satInc (s.group g).missed }
    else (s.group g).noteLoss (s.losses src a g) := by
  have hmissed : ((s.group g).noteLoss (s.losses src a g)).missed = (s.group g).missed := by rw [Group.noteLoss_eq]
  rw [applySource_eq_run, State.sendOverflows_group, Round.run_group, if_pos (mem_groupIds g), ← hmissed]
  rfl

/-- The counters after a source event: the overflow captures freeze what the first step left (R58, R92). -/
theorem applySource_counter (k : Fin 32) : (applySource src a s).counter k =
    if (s.counter k).group.any (s.takesOverflow (s.wrappedBy src a)) then
      ((s.afterCounting src a).counter k).captured ((s.counter k).group.any fun g => (s.group g).reloadAfter)
    else (s.afterCounting src a).counter k := by
  have hgroup : ((s.afterCounting src a).counter k).group = (s.counter k).group :=
    congrArg Prod.fst (afterCounting_membership src a s k)
  have hreload (g : Fin 8) : ((overflowRound src a s).record g).reloadAfter = (s.group g).reloadAfter := by
    show ((s.group g).noteLoss (s.losses src a g)).reloadAfter = (s.group g).reloadAfter
    rw [Group.noteLoss_eq]
  rw [applySource_eq_run, State.sendOverflows_counter, Round.run_groupIds_counter, hgroup]
  simp only [hreload]
  rfl

/-- What a source event leaves alone. -/
theorem applySource_frame : applySource src a s = { s with
    counters := (applySource src a s).counters, groups := (applySource src a s).groups
    chainTag := (applySource src a s).chainTag, freeCount := (applySource src a s).freeCount
    paths := { s.paths with
      overflows := (applySource src a s).paths.overflows, draftPath := (applySource src a s).paths.draftPath
      chainRequests := (applySource src a s).paths.chainRequests
      fromEngine := (applySource src a s).paths.fromEngine } } := by
  rw [applySource_eq_run, Round.run_frame, afterCounting_frame]
  simp only [State.sendOverflows]

/-- The OVERFLOW events of a source event (R46). -/
theorem applySource_overflows :
    (applySource src a s).paths.overflows = s.paths.overflows ++ s.wrappedBy src a := by
  rw [applySource_eq_run, Round.run_frame, afterCounting_frame]
  simp only [State.sendOverflows]

/-- The drafts of a source event (R89, R91). -/
theorem applySource_draftPath : (applySource src a s).paths.draftPath = s.paths.draftPath ++
    (groupIds.filter (s.takesOverflow (s.wrappedBy src a))).map fun g => .draft
      (s.draftAmong (groupIds.filter (s.takesOverflow (s.wrappedBy src a))) g
        (.overflow (maskOf (s.overflowSet (s.wrappedBy src a) g))) ((s.members g).map (countEvent src a s).entry)) := by
  have hdrafts := Round.run_draftPath (overflowRound_fits src a s) groupIds_nodup
  have hpath : (s.afterCounting src a).paths.draftPath = s.paths.draftPath := by rw [afterCounting_frame]
  have hentry : (s.afterCounting src a).entry = (countEvent src a s).entry := funext (afterCounting_entry src a s)
  simp only [afterCounting_draftAmong, afterCounting_members, hentry, hpath] at hdrafts
  rw [applySource_eq_run, State.sendOverflows_paths]
  exact hdrafts

/-- The chains that a source event starts: their tags and first requests (R95, R111, R112). -/
theorem applySource_chains :
    (applySource src a s).chainTag = s.chainTag +
      BitVec.ofNat 8 (s.chainStarters (groupIds.filter (s.takesOverflow (s.wrappedBy src a)))).length ∧
    (applySource src a s).paths.chainRequests = s.paths.chainRequests ++
      s.firstRequests (groupIds.filter (s.takesOverflow (s.wrappedBy src a))) := by
  have hfits := overflowRound_fits src a s
  have htag := Round.run_chainTag hfits groupIds
  have hrequests := Round.run_chainRequests hfits groupIds_nodup
  have hpath : (s.afterCounting src a).paths.chainRequests = s.paths.chainRequests := by rw [afterCounting_frame]
  rw [afterCounting_chainTag, afterCounting_chainStarters] at htag
  rw [afterCounting_firstRequests, hpath] at hrequests
  rw [applySource_eq_run, State.sendOverflows_paths]
  exact ⟨htag, hrequests⟩

end OverflowRound

/-! ## The statements -/

/-- Settles O23: the first step counter by counter, and the members that the round of overflow causes captures. -/
theorem sourceEventCounts : Obligations.SourceEventCounts := by
  unfold Obligations.SourceEventCounts
  intro src x s
  dsimp only
  refine ⟨fun k => ?_, fun c => ?_, State.losses_eq src x s, applySource_overflows src x s, fun k => ?_,
    applySource_frame src x s⟩
  · have hpreset : ((s.afterCounting src x).counter k).preset = (s.counter k).preset := by
      rw [afterCounting_counter]
      split
      · exact ((s.counter k).take_keeps _ x).1
      · rfl
    rw [applySource_counter, Counter.captured_of_preset hpreset, afterCounting_counter]
  · simp only [← State.position_counting_iff, ← State.position_suspended_iff]
    cases s.position c <;> rfl
  · simp [State.wrappedBy, counterIds]

/-- Settles O24: the round of overflow causes begins where the losses are noted, and its captures draw their tags and send
their drafts and requests in the order of the groups. -/
theorem sourceEventAtGroups : Obligations.SourceEventAtGroups := by
  unfold Obligations.SourceEventAtGroups
  intro src x s
  dsimp only
  obtain ⟨htag, hrequests⟩ := applySource_chains src x s
  exact ⟨applySource_group src x s, applySource_draftPath src x s, htag, hrequests, applySource_fromEngine src x s⟩

end Sys2Proof.Machine
end

section
/-! The statement on a tick at the Count Engine: the periodic causes as a round that begins where the TICK source event has been
taken (section 4.4). -/

namespace Sys2Proof.Machine

/-- A group record after its countdown at a tick, before the cause reaches it (R75). -/
def Group.ticked (x : Group) : Group :=
  if x.countsDown then
    if x.countdown = 1 then { x with countdown := x.period } else { x with countdown := x.countdown - 1 }
  else x

/-- A countdown that does not run is left. -/
theorem Group.ticked_stands {x : Group} (h : x.countsDown = false) : x.ticked = x := by
  rw [Group.ticked, h]
  rfl

/-- A countdown that reaches 0 begins again at the period. -/
theorem Group.ticked_due {x : Group} (h : x.countsDown = true) (h1 : x.countdown = 1) :
    x.ticked = { x with countdown := x.period } := by rw [Group.ticked, if_pos h, if_pos h1]

/-- A countdown that does not reach 0 is one less. -/
theorem Group.ticked_runs {x : Group} (h : x.countsDown = true) (h1 : x.countdown ≠ 1) :
    x.ticked = { x with countdown := x.countdown - 1 } := by rw [Group.ticked, if_pos h, if_neg h1]

/-- A tick at a group sets its countdown alone. -/
theorem Group.ticked_eq (x : Group) : x.ticked = { x with countdown := x.ticked.countdown } := by
  unfold Group.ticked
  split
  · split <;> rfl
  · rfl

/-- The countdown reaches 0 where it stands at 1. -/
theorem countdown_reaches_zero_iff (n : BitVec 16) : n - 1 = 0 ↔ n = 1 := sub_eq_zero

/-- A cause that is due is taken, or missed while a draft is outstanding (R75, R87). -/
theorem Group.periodic_of_due {x : Group} (h : x.countsDown = true) (h1 : x.countdown = 1) :
    (x.takesPeriodic = true ∧ x.outstanding = false) ∨
      (x.takesPeriodic = false ∧ x.missesPeriodic = true ∧ x.outstanding = true) := by
  cases ho : x.outstanding <;> simp [Group.takesPeriodic, Group.missesPeriodic, h, h1, ho]

/-- Where none is due, none is taken or missed. -/
theorem Group.periodic_of_not_due {x : Group} (h : x.countsDown = true → x.countdown ≠ 1) :
    x.takesPeriodic = false ∧ x.missesPeriodic = false := by
  have hnot : (x.countsDown && decide (x.countdown = 1)) = false := by
    cases hruns : x.countsDown with
    | false => rfl
    | true => exact decide_eq_false (h hruns)
  rw [Group.takesPeriodic, Group.missesPeriodic, hnot]
  exact ⟨rfl, rfl⟩

/-- The periodic causes of a tick, after its source event. -/
def periodicRound (u : State) : Round where
  record g := (u.group g).ticked
  takes g := (u.group g).takesPeriodic
  misses g := (u.group g).missesPeriodic
  cause _ := .periodic

section PeriodicRound

variable (u : State)

/-- The periodic causes of a tick fit the state after its source event. -/
theorem periodicRound_fits : (periodicRound u).Fits u where
  starts _ := rfl
  apart g ht := by
    obtain ⟨-, hout⟩ := Bool.and_eq_true_iff.mp (show (u.group g).takesPeriodic = true from ht)
    show (u.group g).missesPeriodic = false
    rw [Group.missesPeriodic, show (u.group g).outstanding = false by simpa using hout, Bool.and_false]
  chainNext g := by
    show (u.group g).ticked.chainNext = (u.group g).chainNext
    rw [Group.ticked_eq]
  policy g := by
    show (u.group g).ticked.policy = (u.group g).policy
    rw [Group.ticked_eq]

/-- A PERIODIC cause at a RUNNING group is taken unless a draft is outstanding (R87). -/
theorem captureCause_running {g : Fin 8} {cause : CaptureCause} {s : State} (h : (s.group g).state = .running) :
    captureCause g cause s = if (s.group g).outstanding then missCapture g s else takeCapture g cause s := by
  unfold captureCause Group.canCapture
  rw [h]
  cases (s.group g).outstanding <;> rfl

/-- The countdown of a group is the round's step wherever its record is as the source event left it. -/
theorem countdownAt_eq_step (t : State) (g : Fin 8) (hgroup : t.group g = u.group g) :
    countdownAt t g = (periodicRound u).step t g := by
  have hbefore : (periodicRound u).before t g = t.modifyGroup g fun _ => (t.group g).ticked := by
    rw [hgroup]
    rfl
  have htakes : (periodicRound u).takes g = (t.group g).takesPeriodic := congrArg Group.takesPeriodic hgroup.symm
  have hmisses : (periodicRound u).misses g = (t.group g).missesPeriodic := congrArg Group.missesPeriodic hgroup.symm
  rw [Round.step, hbefore, htakes, hmisses]
  show (if (t.group g).countsDown = true then
    if (t.group g).countdown - 1 = 0 then captureCause g .periodic (t.modifyGroup g fun y => { y with countdown := y.period })
    else t.modifyGroup g fun y => { y with countdown := y.countdown - 1 }
    else t) = _
  simp only [countdown_reaches_zero_iff]
  cases hruns : (t.group g).countsDown with
  | false =>
    obtain ⟨htakes, hmisses⟩ := Group.periodic_of_not_due (x := t.group g) (by simp [hruns])
    rw [Group.ticked_stands hruns, State.modifyGroup_self, htakes, hmisses]
    rfl
  | true =>
    by_cases hdue : (t.group g).countdown = 1
    · have hrunning : (t.group g).state = .running := by
        simpa using (Bool.and_eq_true_iff.mp (show (decide ((t.group g).state = .running) && _) = true from hruns)).1
      have hgroup' : (t.modifyGroup g fun y => { y with countdown := y.period }).group g =
          { t.group g with countdown := (t.group g).period } := State.modifyGroup_group_same ..
      rw [Group.ticked_due hruns hdue, if_pos rfl, if_pos hdue,
        captureCause_running ((congrArg Group.state hgroup').trans hrunning), hgroup']
      obtain ⟨htakes, hout⟩ | ⟨htakes, hmisses, hout⟩ := Group.periodic_of_due hruns hdue
      · rw [htakes, if_pos rfl]
        exact if_neg (Bool.eq_false_iff.mp hout)
      · rw [htakes, hmisses, if_neg Bool.false_ne_true, if_pos rfl]
        exact if_pos hout
    · obtain ⟨htakes, hmisses⟩ := Group.periodic_of_not_due fun _ => hdue
      rw [Group.ticked_runs hruns hdue, if_pos rfl, if_neg hdue, htakes, hmisses]
      rfl

/-- The countdowns of a tick are the round of periodic causes. -/
theorem foldl_countdownAt : groupIds.foldl countdownAt u = (periodicRound u).run groupIds u :=
  Round.foldl_eq_run (fun t g hgroup _ => countdownAt_eq_step u t g hgroup) groupIds_nodup

/-- The groups after the countdowns (R75, R93, R99). -/
theorem periodicRound_group (g : Fin 8) : ((periodicRound u).run groupIds u).group g =
    if (u.group g).takesPeriodic then Group.afterCapture { u.group g with countdown := (u.group g).period }
    else if (u.group g).missesPeriodic then
      { u.group g with countdown := (u.group g).period, missed := satInc (u.group g).missed }
    else if (u.group g).countsDown then { u.group g with countdown := (u.group g).countdown - 1 }
    else u.group g := by
  rw [Round.run_group, if_pos (mem_groupIds g)]
  show (if (u.group g).takesPeriodic then (u.group g).ticked.afterCapture
    else if (u.group g).missesPeriodic then { (u.group g).ticked with missed := satInc (u.group g).ticked.missed }
    else (u.group g).ticked) = _
  cases hruns : (u.group g).countsDown with
  | false =>
    obtain ⟨htakes, hmisses⟩ := Group.periodic_of_not_due (x := u.group g) (by simp [hruns])
    rw [Group.ticked_stands hruns, htakes, hmisses]
    rfl
  | true =>
    by_cases hdue : (u.group g).countdown = 1
    · rw [Group.ticked_due hruns hdue]
      obtain ⟨htakes, -⟩ | ⟨htakes, hmisses, -⟩ := Group.periodic_of_due hruns hdue
      · rw [htakes]
        rfl
      · rw [htakes, hmisses]
        rfl
    · obtain ⟨htakes, hmisses⟩ := Group.periodic_of_not_due fun _ => hdue
      rw [Group.ticked_runs hruns hdue, htakes, hmisses]
      rfl

/-- The counters after the countdowns (R92). -/
theorem periodicRound_counter (k : Fin 32) : ((periodicRound u).run groupIds u).counter k =
    if (u.counter k).group.any fun g => (u.group g).takesPeriodic then
      (u.counter k).captured ((u.counter k).group.any fun g => (u.group g).reloadAfter)
    else u.counter k := by
  have hreload (g : Fin 8) : ((periodicRound u).record g).reloadAfter = (u.group g).reloadAfter := by
    show (u.group g).ticked.reloadAfter = (u.group g).reloadAfter
    rw [Group.ticked_eq]
  rw [Round.run_groupIds_counter]
  simp only [hreload]
  rfl

/-- What the countdowns change (R75, R91, R99, R111, R112). -/
theorem periodicRound_changes : (periodicRound u).run groupIds u =
    (let taking : List (Fin 8) := groupIds.filter fun g => (u.group g).takesPeriodic
     { u with
      counters := ((periodicRound u).run groupIds u).counters, groups := ((periodicRound u).run groupIds u).groups
      chainTag := u.chainTag + BitVec.ofNat 8 (u.chainStarters taking).length
      paths := { u.paths with
        draftPath := u.paths.draftPath ++
          taking.map fun g => .draft (u.draftAmong taking g .periodic ((u.members g).map u.entry))
        chainRequests := u.paths.chainRequests ++ u.firstRequests taking
        fromEngine := u.paths.fromEngine ++
          (groupIds.filter fun g => (u.group g).missesPeriodic).map fun g => .error .missed (some g) } }) := by
  have hfits := periodicRound_fits u
  have htag := Round.run_chainTag hfits groupIds
  have hdrafts := Round.run_draftPath hfits groupIds_nodup
  have hrequests := Round.run_chainRequests hfits groupIds_nodup
  have hreports := Round.run_fromEngine hfits groupIds
  have hframe := Round.run_frame (periodicRound u) groupIds u
  rw [htag, hdrafts, hrequests, hreports] at hframe
  exact hframe

end PeriodicRound

/-- PERIODIC_CAUSE is the tick wherever the countdown of its group reaches 0 in it (log entry 5). -/
theorem periodicDue_of_cause {g : Fin 8} {s : State}
    (h : ((applySource .tick 1 s).group g).takesPeriodic = true ∨ ((applySource .tick 1 s).group g).missesPeriodic = true) :
    periodicDue g s = true := by
  have hcause : (((applySource .tick 1 s).group g).countsDown &&
      decide (((applySource .tick 1 s).group g).countdown = 1)) = true :=
    h.elim (fun h => (Bool.and_eq_true_iff.mp h).1) fun h => (Bool.and_eq_true_iff.mp h).1
  rw [← hcause, Bool.eq_iff_iff]
  simp only [periodicDue, Group.countsDown, Bool.and_eq_true, decide_eq_true_eq, countdown_reaches_zero_iff]

/-- Settles O26: the TICK source event, then the round of periodic causes, which the row PERIODIC_CAUSE brings as well. -/
theorem engineTickCountsDown : Obligations.EngineTickCountsDown := by
  unfold Obligations.EngineTickCountsDown
  intro s hm hticks p u taking
  have htick : takeEngineTick (popEngineTick s) = (periodicRound u).run groupIds u := foldl_countdownAt u
  have hdue (g : Fin 8) (h : (u.group g).takesPeriodic = true ∨ (u.group g).missesPeriodic = true) :
      periodicDue g (popEngineTick s) = true := periodicDue_of_cause h
  clear_value u
  refine ⟨(periodicRound u).run groupIds u, ?_, periodicRound_group u, periodicRound_counter u,
    periodicRound_changes u, fun g hcause => ?_⟩
  · simp only [exec, execEngineTick, if_neg hticks, event_running hm, htick]
  · simp only [exec, execPeriodicCause, if_pos (And.intro hticks (hdue g hcause)), event_running hm, htick]

end Sys2Proof.Machine
end
